-- ==== Sys2Proof/Word.lean ====
section
/-! DEFINITION. The bit-vector widths of the block and the two-valued side (00_scope.md R8, R11; 10_state.md R40). -/

namespace Sys2Proof

/-- `bits8`: counters, angles, amplitudes, RNG bytes (R8). -/
abbrev Byte := BitVec 8

/-- `bits16`: positions, the RNG seed, each half of a 16.16 value (R8, R14). -/
abbrev Half := BitVec 16

/-- `bits32`: command words, host registers, 16.16 values (R14, R50). -/
abbrev Word := BitVec 32

/-- SIDE: 0 = LEFT, 1 = RIGHT (R40, D9). -/
inductive Side where
  | left
  | right
  deriving DecidableEq, Repr, Inhabited

end Sys2Proof
end

