-- ==== Sys2Proof/Config.lean ====
section
/-! DEFINITION. What a built block fixes: the open parameters of 00_scope.md R10 (92_eei_decisions.md table P), the
RNG collaborator of R7, and the free values of 93_implementation_defined.md. Free values are opaque constants without
a body. Constants that the spec gives (R9) are plain definitions. -/

namespace Sys2Proof

/-- One value per side (the parameters indexed `[side]` in R10). -/
structure PerSide (α : Type) where
  left  : α
  right : α
  deriving DecidableEq, Repr, Inhabited

/-- The value for one side. -/
def PerSide.get {α : Type} (v : PerSide α) : Side → α
  | .left => v.left
  | .right => v.right

/-- DIR: +1 or -1 (R10, D19). -/
inductive Dir where
  | plus
  | minus
  deriving DecidableEq, Repr, Inhabited

/-- TRIG_SIGN_SRC (R95, D10): which angle's bit 7 selects the negation. -/
inductive SignSrc where
  | shifted
  | unshifted
  deriving DecidableEq, Repr, Inhabited

/-- DRAW_KIND (R57, D21): the RNG operation a draw site uses. -/
inductive DrawKind where
  | roll
  | read
  deriving DecidableEq, Repr, Inhabited

/-- The four draw sites (R57). -/
inductive Site where
  | turret
  | arm
  | fire
  | periodic
  deriving DecidableEq, Repr, Inhabited

/-- A request on the RNG port (R56). `draw site .roll` is ROLL and `draw site .read` is READ; the port carries no
site: the tag says at which of the four sites of R57 the block issued the request. -/
inductive RngReq where
  | seed (v : Half)
  | draw (site : Site) (kind : DrawKind)
  | advance
  deriving DecidableEq, Repr

/-- The RNG collaborator of R7, its state numbered by natural numbers (notes/assumptions/4.md). `answers` says
whether the collaborator ever answers a request (R58, U4); a conforming one always does. -/
structure Rng where
  seed    : Half → Nat
  roll    : Nat → Byte × Nat
  read    : Nat → Byte × Nat
  advance : Nat → Nat
  answers : RngReq → Nat → Bool
  deriving Inhabited

/-- A collaborator about which nothing is known (R4, R7: "an external dependency"): uninterpreted, one per number. -/
opaque Config.openRng : Nat → Rng

/-- The plain-data name of a collaborator, so that State can hold which one is attached. `lcg` is the family of the
test RNG TR of 95_test_vectors.md section 1, `mute` never answers (U4), `uninterpreted` is any other. -/
inductive RngCode where
  | uninterpreted (id : Nat)
  | lcg (mul add : Half)
  | mute
  deriving DecidableEq, Repr, Inhabited

/-- The parameters of R10, as plain data. -/
structure Params where
  sinLut     : Vector Byte 256
  signSrc    : SignSrc
  oscAmp     : Byte
  yBase      : Half
  angleInit  : Byte
  spawnX     : PerSide Half
  dir        : PerSide Dir
  exitX      : PerSide Half
  aggroX     : Half
  spawnDx    : PerSide Half
  spawnDy    : Half
  baseAngle  : PerSide Byte
  window     : Vector Byte 256
  projSpeed  : Byte
  fieldBound : Nat
  hbX        : Half
  hbY        : Half
  turretKind : DrawKind
  armKind    : DrawKind
  fireKind   : DrawKind
  periodKind : DrawKind
  rng        : RngCode
  blockBase  : Nat
  deriving DecidableEq, Repr, Inhabited

/-- DRAW_KIND by site (R57). -/
def Params.drawKind (p : Params) : Site → DrawKind
  | .turret => p.turretKind
  | .arm => p.armKind
  | .fire => p.fireKind
  | .periodic => p.periodKind

/-- The parameters for which the spec gives no value (table P: "OPEN, no default"): uninterpreted. -/
opaque Config.openParams : Params

/-- The parameters of the block after power-on: the spec's defaults where table P gives one (D10, D19, D21), every
other parameter uninterpreted (notes/assumptions/3.md). -/
def Config.built : Params :=
  { Config.openParams with
    signSrc := .shifted
    dir := ⟨.plus, .minus⟩
    turretKind := .roll
    armKind := .roll
    fireKind := .roll
    periodKind := .roll }

/-- FREE VALUE: what a HostRead returns where R226 leaves it unspecified. -/
opaque Config.freeWord : Nat → Word

/-- FREE VALUE: the collaborator's state where R222, R227 and R231 leave it unspecified. -/
opaque Config.freeSigma : Nat → Nat

/-- GOOP_INIT (R9). -/
def goopInit : Byte := 16

/-- GOOP_DELAY (R9). -/
def goopDelay : Byte := 7

/-- ARM_MASK (R9). -/
def armMask : Byte := 0x0F

/-- TURRET_MASK (R9). -/
def turretMask : Byte := 0x3F

/-- PERIODIC_MASK (R9). -/
def periodicMask : Byte := 0x7F

/-- QUARTER, a quarter turn (R9). -/
def quarter : Byte := 64

end Sys2Proof
end

