-- ==== Sys2Proof/Machine/Operands.lean ====
section
/-! DEFINITION. The operand forms of the units: 16.16 and 8.8 values (00_scope.md R14), the two's-complement negation
of R12, distances on mathematical integers (R11), DIR as a 16-bit addend. -/

namespace Sys2Proof.Machine

/-- The integer part of a 16.16 value: bits [31:16] (R14). -/
def intPart (w : Word) : Half := w.extractLsb 31 16

/-- The fractional part of a 16.16 value: bits [15:0] (R14). -/
def fracPart (w : Word) : Half := w.extractLsb 15 0

/-- An integer as a 16.16 value with fraction zero (R151). -/
def toFixed (h : Half) : Word := h ++ 0#16

/-- The integer part of an 8.8 value: bits [15:8] (R14). -/
def highByte (p : Half) : Byte := p.extractLsb 15 8

/-- The fractional part of an 8.8 value: bits [7:0] (R14). -/
def lowByte (p : Half) : Byte := p.extractLsb 7 0

/-- `neg16(v) = (0x10000 - v) mod 0x10000` (R96, R12). -/
def neg16 (v : Half) : Half := 0#16 - v

/-- `|s16(a) - s16(b)|`, on mathematical integers, so that it cannot wrap (R11, R117, R156). -/
def distance (a b : Half) : Nat := (a.toInt - b.toInt).natAbs

/-- DIR as the 16-bit addend of `move()` (R116). -/
def dirAddend : Dir → Half
  | .plus => 1#16
  | .minus => neg16 1#16

/-- Two 16-bit halves as one host register, `lo` in bits [15:0] (R27, R28). -/
def pack (lo hi : Half) : Word := hi ++ lo

end Sys2Proof.Machine
end

