-- ==== Sys2Proof/Syntax.lean ====
section
/-! DEFINITION. The eight commands of spec/opcode_table.json (30_encoding.md R73), one constructor a row. -/

namespace Sys2Proof

/-- A command (R73). The operand fields are those of R72, unchanged. -/
inductive Instr where
  /-- NOP (R170). `hint` is bits [27:0], which the block ignores (R76); the assembler's `nop.h IMM28` writes them
  (R79), so the constructor keeps them (notes/assumptions/13.md). -/
  | nop (hint : BitVec 28)
  /-- TRIG.COS AMP, ANGLE (R100). -/
  | trigCos (amp angle : Byte)
  /-- TRIG.SIN AMP, ANGLE (R101). -/
  | trigSin (amp angle : Byte)
  /-- START SIDE, PHASE, SEED (R110). -/
  | start (side : Side) (phase : Byte) (seed : Half)
  /-- STEP (R111). -/
  | step
  /-- RUN (R126). -/
  | run
  /-- FIRE SIDE, R (R159). -/
  | fire (side : Side) (r : Byte)
  /-- CLRERR (R171). -/
  | clrErr
  deriving DecidableEq, Repr

end Sys2Proof
end

