-- ==== Sys2Proof/WellFormed.lean ====
section
/-! DEFINITION. What can be ill-formed. A term of `Instr` cannot: its operands have the widths of their fields (R72).
Three things around it can: an assembler line whose operand does not fit its field (R79), a host access that the bus
cannot express (R51), and a parameter set outside the constraints of D48 (R10). -/

namespace Sys2Proof

/-- A command as it is written in the assembler syntax of R79: operands are unsigned numbers; SIDE is 0 or 1. -/
inductive AsmCmd where
  | nop
  | nopH (imm28 : Nat)
  | trigCos (amp angle : Nat)
  | trigSin (amp angle : Nat)
  | start (side phase seed : Nat)
  | step
  | run
  | fire (side r : Nat)
  | clrErr
  deriving DecidableEq, Repr

/-- Every operand fits its field; "An operand that does not fit its field is an assembly error, never truncated"
(R79). -/
def AsmCmd.fits : AsmCmd → Bool
  | .nop => true
  | .nopH imm => imm < 2 ^ 28
  | .trigCos amp angle => amp < 256 && angle < 256
  | .trigSin amp angle => amp < 256 && angle < 256
  | .start side phase seed => side < 2 && phase < 256 && seed < 65536
  | .step => true
  | .run => true
  | .fire side r => side < 2 && r < 256
  | .clrErr => true

/-- What a host access does: HostRead, or HostWrite of a 32-bit value (R13, R50). -/
inductive AccessOp where
  | read
  | write (v : Word)
  deriving DecidableEq, Repr

/-- One host access as the host's bus would put it: an absolute byte address and a width in bits. -/
structure Access where
  addr  : Nat
  width : Nat
  op    : AccessOp
  deriving DecidableEq, Repr

/-- The access is one the block's interface can express, the register space standing at `base` (R51, R55): 32 bits
wide, inside the 64 bytes, at a multiple of 4. -/
def Access.wf (base : Nat) (a : Access) : Bool :=
  a.width == 32 && decide (base ≤ a.addr) && decide (a.addr - base < 0x40) && decide ((a.addr - base) % 4 = 0)

/-- DIR as an integer (R10). -/
def Dir.toInt : Dir → Int
  | .plus => 1
  | .minus => -1

/-- D of R132: the moves from SPAWN_X to EXIT_X in direction DIR, on integers. -/
def Params.exitDistance (p : Params) (side : Side) : Int :=
  (p.dir.get side).toInt * ((p.exitX.get side).toInt - (p.spawnX.get side).toInt)

/-- The constraint of D48 on one side: the exit is reached from the spawn without wrap. -/
def Params.sideOk (p : Params) (side : Side) : Bool :=
  decide (0 ≤ p.exitDistance side)
    && decide (-32768 ≤ (p.exitX.get side).toInt + (p.dir.get side).toInt)
    && decide ((p.exitX.get side).toInt + (p.dir.get side).toInt ≤ 32767)

/-- The constraint of D48 on the play field. -/
def Params.fieldOk (p : Params) : Bool :=
  decide (1 ≤ p.fieldBound) && decide (p.fieldBound ≤ 0x8000)

/-- All of D48. -/
def Params.ok (p : Params) : Bool :=
  p.fieldOk && p.sideOk .left && p.sideOk .right

end Sys2Proof
end

