-- ==== Sys2Proof/Decode.lean ====
section
/-! DEFINITION. From words to commands (30_encoding.md R70 to R78) and back, the opcode table of R73 as rows, the
byte lanes of R52, the assembler of R79, and the decoder of host accesses of R51. Every decoder is total and rejects
by name. -/

namespace Sys2Proof

/-- Why a word is ILLEGAL. Both raise ILLEGAL_CMD (R191). -/
inductive Illegal where
  /-- OP 0x1 .. 0x7 with a reserved bit set (R74). -/
  | reservedBits
  /-- OP 0x8 .. 0xF (R75). -/
  | reservedOpcode
  deriving DecidableEq, Repr

/-- The answer of the decoder: "It returns a command or the verdict ILLEGAL" (R78). -/
inductive Verdict where
  | command (c : Instr)
  | illegal (why : Illegal)
  deriving DecidableEq, Repr

/-- SIDE from its bit: 0 = LEFT, 1 = RIGHT (R72, D9). -/
def Side.ofBit (b : BitVec 1) : Side := if b = 0#1 then .left else .right

/-- The bit of SIDE (R72, D9). -/
def Side.bit : Side → BitVec 1
  | .left => 0#1
  | .right => 1#1

/-- A command if the reserved field is zero, else ILLEGAL (R74). -/
def unlessReserved {n : Nat} (reserved : BitVec n) (c : Instr) : Verdict :=
  if reserved = 0#n then .command c else .illegal .reservedBits

/-- The decode function of R78. -/
def decode (w : Word) : Verdict :=
  match (w.extractLsb 31 28).toNat with
  | 0x0 => .command (.nop (w.extractLsb 27 0))
  | 0x1 => unlessReserved (w.extractLsb 27 16) (.trigCos (w.extractLsb 15 8) (w.extractLsb 7 0))
  | 0x2 => unlessReserved (w.extractLsb 27 16) (.trigSin (w.extractLsb 15 8) (w.extractLsb 7 0))
  | 0x3 => unlessReserved (w.extractLsb 27 25)
      (.start (Side.ofBit (w.extractLsb 24 24)) (w.extractLsb 23 16) (w.extractLsb 15 0))
  | 0x4 => unlessReserved (w.extractLsb 27 0) .step
  | 0x5 => unlessReserved (w.extractLsb 27 0) .run
  | 0x6 => unlessReserved (w.extractLsb 27 9) (.fire (Side.ofBit (w.extractLsb 8 8)) (w.extractLsb 7 0))
  | 0x7 => unlessReserved (w.extractLsb 27 0) .clrErr
  | _ => .illegal .reservedOpcode

/-- The word of a command: formats FH, FA, FS, FF and FN (R71), as R79 concatenates them. -/
def encode : Instr → Word
  | .nop hint => 0x0#4 ++ hint
  | .trigCos amp angle => 0x1#4 ++ 0#12 ++ amp ++ angle
  | .trigSin amp angle => 0x2#4 ++ 0#12 ++ amp ++ angle
  | .start side phase seed => 0x3#4 ++ 0#3 ++ side.bit ++ phase ++ seed
  | .step => 0x4#4 ++ 0#28
  | .run => 0x5#4 ++ 0#28
  | .fire side r => 0x6#4 ++ 0#19 ++ side.bit ++ r
  | .clrErr => 0x7#4 ++ 0#28

/-- One row of the opcode map (R73). -/
structure OpRow where
  mnemonic : String
  pattern  : Word
  mask     : Word
  deriving DecidableEq, Repr

/-- "A word w selects a row when (w AND mask) = match" (R73). -/
def OpRow.selects (r : OpRow) (w : Word) : Bool := (w &&& r.mask) == r.pattern

/-- The row of a command in the opcode map (R73). -/
def Instr.row : Instr → OpRow
  | .nop _ => ⟨"NOP", 0x00000000, 0xF0000000⟩
  | .trigCos _ _ => ⟨"TRIG.COS", 0x10000000, 0xFFFF0000⟩
  | .trigSin _ _ => ⟨"TRIG.SIN", 0x20000000, 0xFFFF0000⟩
  | .start _ _ _ => ⟨"START", 0x30000000, 0xFE000000⟩
  | .step => ⟨"STEP", 0x40000000, 0xFFFFFFFF⟩
  | .run => ⟨"RUN", 0x50000000, 0xFFFFFFFF⟩
  | .fire _ _ => ⟨"FIRE", 0x60000000, 0xFFFFFE00⟩
  | .clrErr => ⟨"CLRERR", 0x70000000, 0xFFFFFFFF⟩

/-- The opcode map of R73, one row a command. -/
def opTable : List OpRow :=
  [Instr.row (.nop 0), Instr.row (.trigCos 0 0), Instr.row (.trigSin 0 0), Instr.row (.start .left 0 0),
    Instr.row .step, Instr.row .run, Instr.row (.fire .left 0), Instr.row .clrErr]

/-- Byte lane k of a register or command word carries bits [8k+7:8k] (R52). -/
def byteLane (w : Word) (k : Nat) : Byte := w.extractLsb' (8 * k) 8

/-- The word of four byte lanes, lane 0 first (R52). -/
def ofLanes (b0 b1 b2 b3 : Byte) : Word := b3 ++ b2 ++ b1 ++ b0

/-- Decoding on bytes, lane 0 first: the verdict on the first word and the bytes after it; fewer than four bytes are
no word, because the length is always 32 bits (R70, R77). -/
def decodeBytes : List Byte → Option (Verdict × List Byte)
  | b0 :: b1 :: b2 :: b3 :: rest => some (decode (ofLanes b0 b1 b2 b3), rest)
  | _ => none

/-- The command of a verdict, if there is one. -/
def Verdict.command? : Verdict → Option Instr
  | .command c => some c
  | .illegal _ => none

/-- The word whose bits are `w`, numbered as the opcode table numbers them, the bits from `nbits` up being 0. -/
def tableWord (nbits w : Nat) : Word := BitVec.ofNat 32 (w % 2 ^ nbits)

/-- The command the decoder reads from a table row's word; no command is longer than 32 bits (R77). -/
def decodeTableWord (nbits w : Nat) : Option Instr :=
  if nbits ≤ 32 then (decode (tableWord nbits w)).command? else none

/-- The command that an assembler line names, its operands taken modulo their fields. -/
def AsmCmd.command : AsmCmd → Instr
  | .nop => .nop 0
  | .nopH imm => .nop (BitVec.ofNat 28 imm)
  | .trigCos amp angle => .trigCos (BitVec.ofNat 8 amp) (BitVec.ofNat 8 angle)
  | .trigSin amp angle => .trigSin (BitVec.ofNat 8 amp) (BitVec.ofNat 8 angle)
  | .start side phase seed => .start (Side.ofBit (BitVec.ofNat 1 side)) (BitVec.ofNat 8 phase) (BitVec.ofNat 16 seed)
  | .step => .step
  | .run => .run
  | .fire side r => .fire (Side.ofBit (BitVec.ofNat 1 side)) (BitVec.ofNat 8 r)
  | .clrErr => .clrErr

/-- The assembler of R79: the word, or an assembly error (`none`) where an operand does not fit. -/
def assemble (a : AsmCmd) : Option Word :=
  if a.fits then some (encode a.command) else none

/-- Why the access decoder refuses (R51, U10). -/
inductive BadAccess where
  /-- A width other than 32 bits. -/
  | width
  /-- An address outside the sixteen word slots. -/
  | outside
  /-- An offset that is not a multiple of 4. -/
  | misaligned
  deriving DecidableEq, Repr

/-- The decoder of host accesses: the byte offset, or why the interface cannot express the access (R51). -/
def decodeAccess (base : Nat) (a : Access) : Except BadAccess Nat :=
  if a.width ≠ 32 then .error .width
  else if a.addr < base ∨ 0x40 ≤ a.addr - base then .error .outside
  else if (a.addr - base) % 4 ≠ 0 then .error .misaligned
  else .ok (a.addr - base)

end Sys2Proof
end

