-- ==== Sys2Proof/Machine/State.lean ====
section
/-! DEFINITION. The state of one block instance (10_state.md R20, R46), with the RNG collaborator, the parameters the
block is built with, and the pending events of its environment; the reasons a step can stop; the state after reset. -/

namespace Sys2Proof.Machine

/-- REASON (R24). -/
inductive Reason where
  | none
  | hit
  | missGoop
  | missExit
  deriving DecidableEq, Repr

/-- ERRCODE (R191). Codes 5 .. 15 are never produced (U23), so they have no constructor. -/
inductive Err where
  | none
  | illegalCmd
  | notActive
  | busyOverrun
  | locked
  deriving DecidableEq, Repr

/-- LF_SRC (R31): who ran the last projectile test. -/
inductive FireSrc where
  | encounter
  | command
  deriving DecidableEq, Repr

/-- ENG (R20): idle, or the command accepted and not completed. R20's EXEC(cmd) is two constructors here: `hung c` is
a command that has started and never completes (R134, R161, R58); it stays so for ever (notes/assumptions/9.md). -/
inductive Eng where
  | idle
  | exec (c : Instr)
  | hung (c : Instr)
  deriving DecidableEq, Repr

/-- What the environment does next (notes/assumptions/1.md). -/
inductive Event where
  /-- One host register access (R50). -/
  | access (a : Access)
  /-- The engine completes its command before the host's next action (R59, U22). -/
  | engine
  /-- The host polls STATUS until BUSY = 0 (R80 `wait`). -/
  | wait
  /-- The input event Reset() (R220). -/
  | reset
  /-- An agent other than the block uses the RNG port (R227). -/
  | foreignRng
  deriving DecidableEq, Repr

/-- The machine. The fields from `x` to `eng` are R20's tuple; BUSY is computed from `eng` and HIT from `reason`
(R23). `sigma` is the collaborator's state (R46(b)). `cfg` holds SIN_LUT and the parameters of R10, which nothing
writes (R223). The last four fields are the model's own. -/
structure State where
  x           : Half
  y           : Half
  angle       : Byte
  goopCounter : Byte
  goopTimer   : Byte
  gt          : Byte
  side        : Side
  inRange     : Bool
  tx          : Half
  ty          : Half
  active      : Bool
  term        : Bool
  reason      : Reason
  err         : Err
  trigResult  : Word
  lfAngle     : Byte
  lfR         : Byte
  lfHit       : Bool
  lfValid     : Bool
  lfSrc       : FireSrc
  fireSteps   : Word
  eng         : Eng
  sigma       : Nat
  cfg         : Params
  /-- The model's own: the requests issued on the RNG port, oldest first (R58). -/
  rngLog      : List RngReq
  /-- The model's own: the pending events, next first. -/
  events      : List Event
  /-- The model's own: the word the last HostRead returned. -/
  rdata       : Word
  /-- The model's own: how many free values have been drawn. -/
  freeCount   : Nat
  deriving DecidableEq, Repr

/-- Faults. None exists: "No computation of the block raises an exception" (R190), host-interface errors are recorded
in ERRCODE (R193), and a hang is a next state in which ENG holds the command as hung (R134, R161). -/
inductive Fault where
  deriving DecidableEq, Repr

/-- Refusals. -/
inductive Refusal where
  /-- Raised by `exec` for an instruction without a meaning; there is none in this model. Safe. -/
  | notModelled (mnemonic : String)
  /-- Raised by the access decoder for an access the interface cannot express: "A model's decoder refuses" it (R51,
  U10). Safe: the run stops. -/
  | badAccess (why : BadAccess)
  deriving DecidableEq, Repr

/-- The machine after power-on reset: the "after reset" column of R47. `sigma` is a free value (R47: "unspecified"),
`cfg` is the built block's parameters, and the model's own fields start as notes/assumptions/8.md says. -/
def State.reset : State where
  x := 0
  y := 0
  angle := 0
  goopCounter := 0
  goopTimer := 0
  gt := 0
  side := .left
  inRange := false
  tx := 0
  ty := 0
  active := false
  term := false
  reason := .none
  err := .none
  trigResult := 0
  lfAngle := 0
  lfR := 0
  lfHit := false
  lfValid := false
  lfSrc := .encounter
  fireSteps := 0
  eng := .idle
  sigma := Config.freeSigma 0
  cfg := Config.built
  rngLog := []
  events := []
  rdata := 0
  freeCount := 1

end Sys2Proof.Machine
end

