-- ==== Sys2Proof/Machine/Flags.lean ====
section
/-! DEFINITION. The flags and the host-visible registers as words (10_state.md R23 to R33, R43): which bit holds what.
BUSY and HIT are computed (R23). The block has no arithmetic condition codes (R43, R205). -/

namespace Sys2Proof.Machine

/-- BUSY: "1 while a command is accepted but not completed (ENG ≠ IDLE)" (R23). -/
def State.busy (s : State) : Bool :=
  match s.eng with
  | .idle => false
  | .exec _ => true
  | .hung _ => true

/-- HIT = (REASON == 1) (R23). -/
def State.hit (s : State) : Bool := s.reason == .hit

/-- The code of a termination reason (R24). -/
def Reason.code : Reason → BitVec 2
  | .none => 0
  | .hit => 1
  | .missGoop => 2
  | .missExit => 3

/-- The code of an error (R191). -/
def Err.code : Err → BitVec 4
  | .none => 0
  | .illegalCmd => 1
  | .notActive => 2
  | .busyOverrun => 3
  | .locked => 4

/-- LF_SRC: 0 for an encounter fire, 1 for a FIRE command (R31). -/
def FireSrc.bit : FireSrc → BitVec 1
  | .encounter => 0
  | .command => 1

/-- STATUS (R23): [0] BUSY, [1] ACTIVE, [2] TERM, [3] HIT, [5:4] REASON, [11:8] ERRCODE, the rest 0. -/
def statusWord (s : State) : Word :=
  0#20 ++ s.err.code ++ 0#2 ++ s.reason.code ++ BitVec.ofBool s.hit ++ BitVec.ofBool s.term ++ BitVec.ofBool s.active
    ++ BitVec.ofBool s.busy

/-- COUNTERS (R29): [7:0] ANGLE, [15:8] GOOP_COUNTER, [23:16] GOOP_TIMER, [31:24] GT. -/
def countersWord (s : State) : Word := s.gt ++ s.goopTimer ++ s.goopCounter ++ s.angle

/-- MODE (R30): [0] SIDE, [1] IN_RANGE, the rest 0. -/
def modeWord (s : State) : Word := 0#30 ++ BitVec.ofBool s.inRange ++ s.side.bit

/-- LAST_FIRE (R31): [7:0] LF_ANGLE, [15:8] LF_R, [16] LF_HIT, [17] LF_VALID, [18] LF_SRC, the rest 0. -/
def lastFireWord (s : State) : Word :=
  0#13 ++ s.lfSrc.bit ++ BitVec.ofBool s.lfValid ++ BitVec.ofBool s.lfHit ++ s.lfR ++ s.lfAngle

/-- What the register at a byte offset holds (R23 to R33): CMD and the reserved offsets read 0. -/
def regWord (off : Nat) (s : State) : Word :=
  match off with
  | 0x04 => statusWord s
  | 0x08 => s.trigResult
  | 0x0C => pack s.x s.y
  | 0x10 => pack s.tx s.ty
  | 0x14 => countersWord s
  | 0x18 => modeWord s
  | 0x1C => lastFireWord s
  | 0x20 => s.fireSteps
  | _ => 0#32

/-- The offsets that read exactly while BUSY = 1: STATUS, CMD and the reserved ones (R173, R226). -/
def readsExactly (off : Nat) : Bool := off == 0x00 || off == 0x04 || decide (0x24 ≤ off)

end Sys2Proof.Machine
end

