-- ==== Sys2Proof/Machine/Ops.lean ====
section
/-! DEFINITION. The shared operations: recording an error (60_exceptions.md R193, the block's whole exception entry:
R196 says there is no trap), command completion and hang, the RNG port (20_memory.md R56 to R58), the LUT (R54), the
register reads and writes of 43_control.md, and Reset(). -/

namespace Sys2Proof.Machine

/-- `raise Error(code)`: the first error since reset or CLRERR is kept, and nothing else changes (R193). -/
def raiseError (e : Err) (s : State) : State :=
  if s.err = .none then { s with err := e } else s

/-- Command completion: `ENG <- IDLE; BUSY <- 0` (R172). -/
def State.complete (s : State) : State := { s with eng := .idle }

/-- The command is in the engine and not completed: after acceptance (R172), and in a RUN that goes on (R126). -/
def State.hold (c : Instr) (s : State) : State := { s with eng := .exec c }

/-- The command never completes: BUSY stays 1 until Reset() (R134, R161, R58, R229). -/
def State.hang (c : Instr) (s : State) : State := { s with eng := .hung c }

/-- `terminate(reason)`, less the end of the frame (R113). -/
def State.terminate (r : Reason) (s : State) : State := { s with reason := r, term := true, active := false }

/-- `Lut(s)` (R54). -/
def lut (p : Params) (s : Byte) : Byte := p.sinLut.get s.toFin

/-- The collaborator that a code names; `lcg 5 1` is the test RNG TR of 95_test_vectors.md section 1. -/
def rngOf : RngCode → Rng
  | .uninterpreted id => Config.openRng id
  | .lcg mul add =>
    let next (n : Nat) : Nat := (mul.toNat * n + add.toNat) % 65536
    { seed := fun v => v.toNat
      roll := fun n => (BitVec.ofNat 8 (next n / 256), next n)
      read := fun n => (BitVec.ofNat 8 (next n / 256), n)
      advance := next
      answers := fun _ _ => true }
  | .mute =>
    { seed := fun v => v.toNat
      roll := fun n => (0, n)
      read := fun n => (0, n)
      advance := fun n => n
      answers := fun _ _ => false }

/-- The collaborator attached to the block. -/
def State.collaborator (s : State) : Rng := rngOf s.cfg.rng

/-- The reply to a request: the byte of a draw (0 where the request returns none) and the next state (R56). -/
def rngReply (g : Rng) (q : RngReq) (n : Nat) : Byte × Nat :=
  match q with
  | .seed v => (0, g.seed v)
  | .draw _ .roll => g.roll n
  | .draw _ .read => g.read n
  | .advance => (0, g.advance n)

/-- The request was issued and the collaborator went to state `n`. -/
def State.issued (q : RngReq) (n : Nat) (s : State) : State := { s with sigma := n, rngLog := s.rngLog ++ [q] }

/-- What comes of a request: the byte of the response and the state after it, or no answer ever (R58). -/
inductive Reply where
  | answered (b : Byte) (s : State)
  /-- The state has the request issued and the collaborator where it was. -/
  | never (s : State)
  deriving DecidableEq, Repr

/-- One request on the RNG port: it is issued, and it is answered or holds the command for ever (R58). -/
def ask (q : RngReq) (s : State) : Reply :=
  if s.collaborator.answers q s.sigma then
    .answered (rngReply s.collaborator q s.sigma).1 (s.issued q (rngReply s.collaborator q s.sigma).2)
  else .never (s.issued q s.sigma)

/-- `Rng(site)` (R57). -/
def draw (site : Site) (s : State) : Reply := ask (.draw site (s.cfg.drawKind site)) s

/-- `RngSeed(v)` (R56). -/
def rngSeed (v : Half) (s : State) : Reply := ask (.seed v) s

/-- `RngAdvance()` (R56). -/
def rngAdvance (s : State) : Reply := ask .advance s

/-- The requests that led from `s` to `t` have been issued; every register is as in `s`. -/
def State.withRequestsOf (s t : State) : State := { s with sigma := t.sigma, rngLog := t.rngLog }

/-- STEP and RUN are accepted only while ACTIVE = 1 (R172, R135). -/
def needsTrial : Instr → Bool
  | .step => true
  | .run => true
  | _ => false

/-- HostWrite to CMD: the checks in the order of R172, then acceptance. -/
def offer (w : Word) (s : State) : State :=
  if s.busy then raiseError .busyOverrun s
  else
    match decode w with
    | .illegal _ => raiseError .illegalCmd s
    | .command c => if needsTrial c && !s.active then raiseError .notActive s else s.hold c

/-- HostWrite to POS (R175). -/
def writePos (v : Word) (s : State) : State :=
  if s.busy then raiseError .busyOverrun s
  else if s.active then raiseError .locked s
  else { s with x := v.extractLsb 15 0, y := v.extractLsb 31 16 }

/-- HostWrite to TARGET (R174). -/
def writeTarget (v : Word) (s : State) : State :=
  if s.busy then raiseError .busyOverrun s
  else if s.active then raiseError .locked s
  else { s with tx := v.extractLsb 15 0, ty := v.extractLsb 31 16 }

/-- HostWrite(off, v) (R172, R174, R175); every other offset is ignored (R176). -/
def hostWrite (off : Nat) (v : Word) (s : State) : State :=
  match off with
  | 0x00 => offer v s
  | 0x0C => writePos v s
  | 0x10 => writeTarget v s
  | _ => s

/-- A free value for the host (R226). -/
def freeRead (s : State) : State := { s with rdata := Config.freeWord s.freeCount, freeCount := s.freeCount + 1 }

/-- HostRead(off), its word delivered in `rdata` (R173): exact unless BUSY = 1, where only STATUS, CMD and the
reserved offsets are (R226). -/
def hostRead (off : Nat) (s : State) : State :=
  if s.busy && !readsExactly off then freeRead s else { s with rdata := regWord off s }

/-- The collaborator's state becomes a free value (R227, R231). -/
def freeSigma (s : State) : State := { s with sigma := Config.freeSigma s.freeCount, freeCount := s.freeCount + 1 }

/-- The registers of R221, everything else unchanged. -/
def clearRegisters (s : State) : State :=
  { s with
    x := 0, y := 0, angle := 0, goopCounter := 0, goopTimer := 0, gt := 0, side := .left, inRange := false
    tx := 0, ty := 0, active := false, term := false, reason := .none, err := .none, trigResult := 0
    lfAngle := 0, lfR := 0, lfHit := false, lfValid := false, lfSrc := .encounter, fireSteps := 0, eng := .idle }

/-- Reset() (R221): it issues no RNG request and leaves the collaborator as it was (R222), save that abandoning a
running command leaves sigma unspecified (R231); SIN_LUT and the parameters stay (R223). -/
def resetBlock (s : State) : State :=
  if s.busy then freeSigma (clearRegisters s) else clearRegisters s

end Sys2Proof.Machine
end

