-- ==== Sys2Proof/Machine/Control.lean ====
section
/-! DEFINITION. The bookkeeping commands NOP and CLRERR (43_control.md R170, R171). -/

namespace Sys2Proof.Machine

/-- NOP (R170): "no state change other than BUSY going 1 and then 0"; the hint bits have no meaning (R76). -/
def execNop (_hint : BitVec 28) (s : State) : Host.Outcome State Fault Refusal := .next s.complete

/-- `ERRCODE <- 0` (R171). -/
def clearError (s : State) : State := { s with err := .none }

/-- CLRERR (R171). -/
def execClrErr (s : State) : Host.Outcome State Fault Refusal := .next (clearError s).complete

end Sys2Proof.Machine
end

