-- ==== Sys2Proof/Machine/Trig.lean ====
section
/-! DEFINITION. The fixed-point trig unit (40_trig.md R90 to R97) and its two commands TRIG.COS and TRIG.SIN. -/

namespace Sys2Proof.Machine

/-- The kind of R90. -/
inductive TrigKind where
  | cos
  | sin
  deriving DecidableEq, Repr

/-- The sine angle s (R91). -/
def sineAngle (k : TrigKind) (θ : Byte) : Byte :=
  match k with
  | .cos => θ + quarter
  | .sin => θ

/-- The product P of amplitude and magnitude, exact in 16 bits (R92, R93). -/
def product (p : Params) (k : TrigKind) (amp θ : Byte) : Half :=
  amp.zeroExtend 16 * (lut p (sineAngle k θ)).zeroExtend 16

/-- The negate bit n (R95). -/
def negates (p : Params) (k : TrigKind) (θ : Byte) : Bool :=
  match p.signSrc with
  | .shifted => (sineAngle k θ).getLsbD 7
  | .unshifted => θ.getLsbD 7

/-- The integer part I of a product before negation (R94). -/
def productInt (P : Half) : Half := (highByte P).zeroExtend 16

/-- The fractional part F of a product before negation (R94). -/
def productFrac (P : Half) : Half := lowByte P ++ 0x00#8

/-- `TRIG(kind, amp, θ)` (R97): each part is negated separately in 16 bits (R96). -/
def trig (p : Params) (k : TrigKind) (amp θ : Byte) : Word :=
  let P := product p k amp θ
  if negates p k θ then neg16 (productInt P) ++ neg16 (productFrac P) else productInt P ++ productFrac P

/-- A host TRIG command's result goes to TRIG_RESULT (R26). -/
def State.setTrig (w : Word) (s : State) : State := { s with trigResult := w }

/-- TRIG.COS (R100): `TRIG_RESULT <- TRIG(COS, AMP, ANGLE)`. -/
def execTrigCos (amp angle : Byte) (s : State) : Host.Outcome State Fault Refusal :=
  .next (s.setTrig (trig s.cfg .cos amp angle)).complete

/-- TRIG.SIN (R101): `TRIG_RESULT <- TRIG(SIN, AMP, ANGLE)`. -/
def execTrigSin (amp angle : Byte) (s : State) : Host.Outcome State Fault Refusal :=
  .next (s.setTrig (trig s.cfg .sin amp angle)).complete

end Sys2Proof.Machine
end

