-- ==== Sys2Proof/Machine/Projectile.lean ====
section
/-! DEFINITION. The projectile-hitbox tester (42_projectile.md R150 to R163) and its command FIRE. -/

namespace Sys2Proof.Machine

/-- The spawn point as 16.16 values (R151). -/
def spawnX (p : Params) (side : Side) (x : Half) : Word := toFixed (x + p.spawnDx.get side)

/-- The spawn point's y (R151). -/
def spawnY (p : Params) (y : Half) : Word := toFixed (y + p.spawnDy)

/-- The launch angle a (R152). -/
def launchAngle (p : Params) (side : Side) (r : Byte) : Byte := p.baseAngle.get side + p.window.get r.toFin

/-- vx (R153). -/
def velocityX (p : Params) (a : Byte) : Word := trig p .cos p.projSpeed a

/-- vy (R153). -/
def velocityY (p : Params) (a : Byte) : Word := trig p .sin p.projSpeed a

/-- The field check (R155): the integer parts are read unsigned. -/
def inField (p : Params) (px py : Word) : Bool :=
  decide ((intPart px).toNat < p.fieldBound) && decide ((intPart py).toNat < p.fieldBound)

/-- The hit test (R156): strict, on integer parts. -/
def hitTest (p : Params) (tx ty : Half) (px py : Word) : Bool :=
  decide (distance (intPart px) tx < p.hbX.toNat) && decide (distance (intPart py) ty < p.hbY.toNat)

/-- The loop of R157: step, field check, hit test; the answer is LF_HIT and the number of steps, or `none` where
`fuel` steps do not end it. -/
def flight (p : Params) (tx ty : Half) (vx vy : Word) : (fuel : Nat) → (px py : Word) → (n : Nat) → Option (Bool × Nat)
  | 0, _, _, _ => none
  | fuel + 1, px, py, n =>
    if !inField p (px + vx) (py + vy) then some (false, n + 1)
    else if hitTest p tx ty (px + vx) (py + vy) then some (true, n + 1)
    else flight p tx ty vx vy fuel (px + vx) (py + vy) (n + 1)

/-- The bound of R160, 2^31 + 1 steps. A test that has not ended by then never ends (notes/assumptions/10.md). -/
def flightBound : Nat := 0x80000001

/-- PROJ (R157), less its two register writes: `none` where the test never ends (R161). -/
def proj (p : Params) (x y : Half) (side : Side) (tx ty : Half) (r : Byte) : Option (Bool × Nat) :=
  let a := launchAngle p side r
  flight p tx ty (velocityX p a) (velocityY p a) flightBound (spawnX p side x) (spawnY p y) 0

/-- The record of a test: LAST_FIRE and FIRE_STEPS, and nothing else (R157, R158). -/
def State.recordFire (src : FireSrc) (hit : Bool) (r a : Byte) (n : Nat) (s : State) : State :=
  { s with lfSrc := src, lfValid := true, lfHit := hit, lfR := r, lfAngle := a, fireSteps := BitVec.ofNat 32 n }

/-- One projectile test from the current POS and TARGET registers: whether it hit and the state with its record, or
`none` where it never ends (R150, R157). -/
def fireTest (side : Side) (r : Byte) (src : FireSrc) (s : State) : Option (Bool × State) :=
  match proj s.cfg s.x s.y side s.tx s.ty r with
  | none => none
  | some (hit, n) => some (hit, s.recordFire src hit r (launchAngle s.cfg side r) n)

/-- The end of `FIRE_PROJECTILE()`: a hit, a miss, or none ever (R161, R58), with the state reached. -/
inductive Shot where
  | hit (s : State)
  | miss (s : State)
  | never (s : State)
  deriving DecidableEq, Repr

/-- `FIRE_PROJECTILE()` (R163). -/
def fireProjectile (s : State) : Shot :=
  match draw .fire s with
  | .never t => .never t
  | .answered r t =>
    match fireTest t.side r .encounter t with
    | none => .never t
    | some (true, u) => .hit u
    | some (false, u) => .miss u

/-- FIRE (R159): in the zero-velocity case of R161 it hangs, and no register has changed then. -/
def execFire (side : Side) (r : Byte) (s : State) : Host.Outcome State Fault Refusal :=
  .next (match fireTest side r .command s with
    | none => s.hang (.fire side r)
    | some (_, t) => t.complete)

end Sys2Proof.Machine
end

