-- ==== Sys2Proof/Machine/Encounter.lean ====
section
/-! DEFINITION. The encounter state machine (41_encounter.md R110 to R135) and its commands START, STEP and RUN. -/

namespace Sys2Proof.Machine

/-- The tagged result of R15: the frame continues, has terminated (the outcome stands in REASON), or never completes
(R134), with the state reached. -/
inductive FrameResult where
  | cont (s : State)
  | terminated (s : State)
  | hang (s : State)
  deriving DecidableEq, Repr

/-- The next step of the frame runs only if this one continues: "A step that terminates the trial ends the frame at
once" (R112). -/
def FrameResult.andThen (r : FrameResult) (k : State → FrameResult) : FrameResult :=
  match r with
  | .cont s => k s
  | .terminated s => .terminated s
  | .hang s => .hang s

/-- A request whose byte is discarded (R114, R121). -/
def drawDiscard (site : Site) (s : State) : FrameResult :=
  match draw site s with
  | .never t => .hang t
  | .answered _ t => .cont t

/-- Step 1, the turret draw (R114). -/
def turretStep (s : State) : FrameResult :=
  if s.gt &&& turretMask = 0 ∧ (s.side = .right ∨ s.inRange = false) then drawDiscard .turret s else .cont s

/-- Step 2, the oscillator (R115). -/
def oscillate (s : State) : State := { s with y := s.cfg.yBase + intPart (trig s.cfg .cos s.cfg.oscAmp s.angle) }

/-- `move()` (R116). -/
def State.move (s : State) : State :=
  { s with x := s.x + dirAddend (s.cfg.dir.get s.side), angle := s.angle + 1 }

/-- Step 3, approaching (R117): the aggro frame sets IN_RANGE and does not move. -/
def approachStep (s : State) : State :=
  if distance s.x s.tx < s.cfg.aggroX.toNat then { s with inRange := true } else s.move

/-- The arm of R118: it overwrites GOOP_TIMER whatever it holds. -/
def arm (r : Byte) (s : State) : State :=
  if r &&& armMask = 0 then { s with goopTimer := goopDelay } else s

/-- Step 4, in range (R118). -/
def inRangeStep (s : State) : FrameResult :=
  match draw .arm s with
  | .never t => .hang t
  | .answered r t => .cont (arm r t).move

/-- Steps 3 and 4: the two arms of one test on IN_RANGE (R119). -/
def rangeStep (s : State) : FrameResult :=
  if s.inRange then inRangeStep s else .cont (approachStep s)

/-- `GOOP_COUNTER <- GOOP_COUNTER -8 1` (R120). -/
def State.spendGoop (s : State) : State := { s with goopCounter := s.goopCounter - 1 }

/-- `GOOP_TIMER <- GOOP_TIMER -8 1` (R120). -/
def State.countDown (s : State) : State := { s with goopTimer := s.goopTimer - 1 }

/-- The shot of R120, GOOP_COUNTER having been decremented to a value other than 0. -/
def shoot (s : State) : FrameResult :=
  match fireProjectile s with
  | .never t => .hang t
  | .hit t => .terminated (t.terminate .hit)
  | .miss t => .cont t

/-- The expiry of GOOP_TIMER: GOOP_COUNTER is decremented, and the frame terminates or fires (R120). -/
def expire (s : State) : FrameResult :=
  if s.spendGoop.goopCounter = 0 then .terminated (s.spendGoop.terminate .missGoop) else shoot s.spendGoop

/-- Step 5, the goop timer (R120). -/
def goopStep (s : State) : FrameResult :=
  if s.goopTimer = 0 then .cont s
  else if s.countDown.goopTimer = 0 then expire s.countDown
  else .cont s.countDown

/-- Step 6, the periodic draw (R121). -/
def periodicStep (s : State) : FrameResult :=
  if s.gt &&& periodicMask = 0 then drawDiscard .periodic s else .cont s

/-- Step 7 (R122). -/
def tick (s : State) : State := { s with gt := s.gt + 1 }

/-- X has crossed the exit boundary of the side (R123). -/
def crossed (p : Params) (side : Side) (x : Half) : Bool :=
  match p.dir.get side with
  | .plus => decide ((p.exitX.get side).toInt < x.toInt)
  | .minus => decide (x.toInt < (p.exitX.get side).toInt)

/-- Step 8, the exit test, and the frame advance of a continuing frame (R123, R124). -/
def exitStep (s : State) : FrameResult :=
  if crossed s.cfg s.side s.x then .terminated (s.terminate .missExit)
  else
    match rngAdvance s with
    | .never t => .hang t
    | .answered _ t => .cont t

/-- A frame that never completes makes no register visible, since effects become visible only when BUSY falls (R59);
its requests have been issued and stay issued (R58; notes/assumptions/25.md). -/
def FrameResult.onlyRequestsOnHang (s : State) : FrameResult → FrameResult
  | .cont t => .cont t
  | .terminated t => .terminated t
  | .hang t => .hang (s.withRequestsOf t)

/-- Steps 1 to 8 and the advance, in this order (R112, R125). -/
def frameSteps (s : State) : FrameResult :=
  (turretStep s).andThen fun s1 =>
  (rangeStep (oscillate s1)).andThen fun s2 =>
  (goopStep s2).andThen fun s3 =>
  (periodicStep s3).andThen fun s4 =>
  exitStep (tick s4)

/-- FRAME() (R125). -/
def frame (s : State) : FrameResult := (frameSteps s).onlyRequestsOnHang s

/-- Frames until one terminates or never completes, at most `fuel` of them (R126, R134). `cont` says that `fuel`
frames were not enough. -/
def runFrames : (fuel : Nat) → State → FrameResult
  | 0, s => .cont s
  | fuel + 1, s => (frame s).andThen (runFrames fuel)

/-- Frames of RUN in one engine move. With an exit that some 16-bit X crosses (D48 gives one) this many frames always
terminate or hang; without one RUN goes on in the next engine move (notes/assumptions/11.md). -/
def runFuel : Nat := 0x10001

/-- The initial state of a trial (R110), after its SEED request. -/
def startTrial (side : Side) (phase : Byte) (s : State) : State :=
  { s with
    side := side, gt := phase
    x := s.cfg.spawnX.get side, y := 0, angle := s.cfg.angleInit
    goopCounter := goopInit, goopTimer := 0, inRange := false
    active := true, term := false, reason := .none
    lfAngle := 0, lfR := 0, lfHit := false, lfValid := false, lfSrc := .encounter, fireSteps := 0 }

/-- START (R110). Where the collaborator never answers the SEED request, START hangs with the request issued (R58). -/
def execStart (side : Side) (phase : Byte) (seed : Half) (s : State) : Host.Outcome State Fault Refusal :=
  .next (match rngSeed seed s with
    | .never t => t.hang (.start side phase seed)
    | .answered _ t => (startTrial side phase t).complete)

/-- A STEP or RUN refused with NOT_ACTIVE: nothing but ERRCODE changes, and the engine is free (R135). -/
def refuseInactive (s : State) : State := (raiseError .notActive s).complete

/-- STEP (R111): one frame. -/
def execStep (s : State) : Host.Outcome State Fault Refusal :=
  .next (if s.active then
      match frame s with
      | .cont t => t.complete
      | .terminated t => t.complete
      | .hang t => t.hang .step
    else refuseInactive s)

/-- RUN (R126): frames until Terminated. -/
def execRun (s : State) : Host.Outcome State Fault Refusal :=
  .next (if s.active then
      match runFrames runFuel s with
      | .cont t => t.hold .run
      | .terminated t => t.complete
      | .hang t => t.hang .run
    else refuseInactive s)

end Sys2Proof.Machine
end

