-- ==== Sys2Proof/Machine/Dispatch.lean ====
section
/-! DEFINITION. One arm per command. -/

namespace Sys2Proof.Machine

def exec (i : Instr) (s : State) : Host.Outcome State Fault Refusal :=
  match i with
  | .nop hint => Sys2Proof.Machine.execNop hint s
  | .trigCos amp angle => Sys2Proof.Machine.execTrigCos amp angle s
  | .trigSin amp angle => Sys2Proof.Machine.execTrigSin amp angle s
  | .start side phase seed => Sys2Proof.Machine.execStart side phase seed s
  | .step => Sys2Proof.Machine.execStep s
  | .run => Sys2Proof.Machine.execRun s
  | .fire side r => Sys2Proof.Machine.execFire side r s
  | .clrErr => Sys2Proof.Machine.execClrErr s

end Sys2Proof.Machine
end

