-- ==== Sys2Proof/Machine/Events.lean ====
section
/-! DEFINITION. What one step does: the next event of the environment, or the engine's own move (00_scope.md R5, R6;
20_memory.md R59). -/

namespace Sys2Proof.Machine

/-- The engine's move: the command in ENG runs as one atomic transition (R6, R172); an idle engine keeps all state
(R204), and one that has hung makes no move any more: "Only Reset() ends it" (R229, R134). -/
def runEngine (s : State) : Host.Outcome State Fault Refusal :=
  match s.eng with
  | .idle => .next s
  | .exec c => exec c s
  | .hung _ => .next s

/-- One host access, refused where the interface cannot express it (R51). -/
def access (a : Access) (s : State) : Host.Outcome State Fault Refusal :=
  match decodeAccess s.cfg.blockBase a with
  | .error why => .refused (.badAccess why)
  | .ok off =>
    match a.op with
    | .read => .next (hostRead off s)
    | .write v => .next (hostWrite off v s)

/-- The events after the next one. -/
def State.withEvents (es : List Event) (s : State) : State := { s with events := es }

/-- The STATUS poll of R80 `wait`: while BUSY = 1 each reading changes nothing and the poll goes on, so the engine
moves; with BUSY = 0 the host has read STATUS and goes on. -/
def poll (rest : List Event) (s : State) : Host.Outcome State Fault Refusal :=
  if s.busy then runEngine s else .next (hostRead 0x04 (s.withEvents rest))

/-- The next event, or the engine's move where none is pending. A foreign request on the RNG port makes the
collaborator's state a free value and leaves ENG alone: it does not end a hang, and a frame never has one in its middle
(the model's choice where R227 leaves it open, notes/assumptions/19.md). -/
def serve (s : State) : Host.Outcome State Fault Refusal :=
  match s.events with
  | [] => runEngine s
  | .access a :: rest => access a (s.withEvents rest)
  | .engine :: rest => runEngine (s.withEvents rest)
  | .wait :: rest => poll rest s
  | .reset :: rest => .next (resetBlock (s.withEvents rest))
  | .foreignRng :: rest => .next (freeSigma (s.withEvents rest))

/-- The host's write of a word to CMD, as an event. -/
def cmdWrite (base : Nat) (w : Word) : Event := .access ⟨base + 0x00, 32, .write w⟩

/-- The word stands in the engine and the engine moves next: for a word that decodes, ENG holds its command; a word
that is ILLEGAL never enters ENG (R172), so it stands as the host's next write of CMD to an idle engine. -/
def latchWord (w : Word) (s : State) : State :=
  match decode w with
  | .command c => (s.hold c).withEvents (.engine :: s.events)
  | .illegal _ => s.complete.withEvents (cmdWrite s.cfg.blockBase w :: s.events)

end Sys2Proof.Machine
end

