-- ==== Sys2Proof/Machine/Step.lean ====
section
/-! DEFINITION. The step function, and the placing of a command where the next step runs it. -/

namespace Sys2Proof.Machine

/-- One step of the machine: see `serve`. -/
def step (s : State) : Host.Outcome State Fault Refusal := serve s

/-- The command word placed where the engine takes its next command from: see `latchWord`
(notes/assumptions/2.md). -/
def State.withFetchWord (s : State) (nbits w : Nat) : State := latchWord (tableWord nbits w) s

end Sys2Proof.Machine
end

