-- ==== Sys2Proof/Machine/HostProgram.lean ====
section
/-! DEFINITION. The written form of commands (30_encoding.md R79) and host programs (R80): each line becomes the host's
next events. -/

namespace Sys2Proof.Machine

/-- The value of a digit. -/
def digitValue (c : Char) : Option Nat :=
  if 48 ≤ c.toNat ∧ c.toNat ≤ 57 then some (c.toNat - 48)
  else if 97 ≤ c.toNat ∧ c.toNat ≤ 102 then some (c.toNat - 87)
  else if 65 ≤ c.toNat ∧ c.toNat ≤ 70 then some (c.toNat - 55)
  else none

/-- Digits of a base, most significant first, after the value `n`. -/
def numeral (base : Nat) : Nat → List Char → Option Nat
  | n, [] => some n
  | n, c :: cs =>
    match digitValue c with
    | some d => if d < base then numeral base (base * n + d) cs else none
    | none => none

/-- "Operands are unsigned numbers in decimal, or hexadecimal with a `0x` prefix" (R79). -/
def parseNumber : List Char → Option Nat
  | [] => none
  | '0' :: 'x' :: [] => none
  | '0' :: 'x' :: ds => numeral 16 0 ds
  | ds => numeral 10 0 ds

/-- "SIDE may also be written `left` (0) or `right` (1)" (R79). -/
def parseSide : List Char → Option Nat
  | ['l', 'e', 'f', 't'] => some 0
  | ['r', 'i', 'g', 'h', 't'] => some 1
  | ds => parseNumber ds

/-- A command line of R79, given as its mnemonic and its operands, the commas and blanks between them dropped
(notes/assumptions/29.md). -/
def parseCommand (mnemonic : String) (operands : List (List Char)) : Option AsmCmd :=
  match mnemonic, operands with
  | "nop", [] => some .nop
  | "nop.h", [imm] => (parseNumber imm).map .nopH
  | "trig.cos", [amp, angle] => (parseNumber amp).bind fun a => (parseNumber angle).map fun b => .trigCos a b
  | "trig.sin", [amp, angle] => (parseNumber amp).bind fun a => (parseNumber angle).map fun b => .trigSin a b
  | "start", [side, phase, seed] =>
    (parseSide side).bind fun a => (parseNumber phase).bind fun b => (parseNumber seed).map fun c => .start a b c
  | "step", [] => some .step
  | "run", [] => some .run
  | "fire", [side, r] => (parseSide side).bind fun a => (parseNumber r).map fun b => .fire a b
  | "clrerr", [] => some .clrErr
  | _, _ => none

/-- The register names of R80. -/
inductive Reg where
  | cmd
  | status
  | trigResult
  | pos
  | target
  | counters
  | mode
  | lastFire
  | fireSteps
  deriving DecidableEq, Repr

/-- The offset of a register (R23 to R32, D2). -/
def Reg.offset : Reg → Nat
  | .cmd => 0x00
  | .status => 0x04
  | .trigResult => 0x08
  | .pos => 0x0C
  | .target => 0x10
  | .counters => 0x14
  | .mode => 0x18
  | .lastFire => 0x1C
  | .fireSteps => 0x20

/-- A line of a host program (R80). -/
inductive HostLine where
  | wr (reg : Reg) (value : Word)
  | rd (reg : Reg)
  | cmd (c : AsmCmd)
  | wait
  | exec (c : AsmCmd)
  | setTarget (tx ty : Int)
  | setPos (x y : Int)
  deriving DecidableEq, Repr

/-- HostWrite(offset of REG, VALUE) (R80). -/
def wrEvent (base : Nat) (reg : Reg) (v : Word) : Event := .access ⟨base + reg.offset, 32, .write v⟩

/-- HostRead(offset of REG) (R80). -/
def rdEvent (base : Nat) (reg : Reg) : Event := .access ⟨base + reg.offset, 32, .read⟩

/-- The value of `settarget` and `setpos`: two's complement halves (R80). -/
def pairWord (lo hi : Int) : Word := pack (BitVec.ofInt 16 lo) (BitVec.ofInt 16 hi)

/-- The events of one line, or an assembly error (R79, R80). -/
def HostLine.events (base : Nat) : HostLine → Option (List Event)
  | .wr reg v => some [wrEvent base reg v]
  | .rd reg => some [rdEvent base reg]
  | .cmd c => (assemble c).map fun w => [wrEvent base .cmd w]
  | .wait => some [.wait]
  | .exec c => (assemble c).map fun w => [wrEvent base .cmd w, .wait]
  | .setTarget tx ty => some [wrEvent base .target (pairWord tx ty)]
  | .setPos x y => some [wrEvent base .pos (pairWord x y)]

/-- The events of a program, or an assembly error in one of its lines. -/
def programEvents (base : Nat) : List HostLine → Option (List Event)
  | [] => some []
  | l :: ls =>
    match l.events base, programEvents base ls with
    | some es, some fs => some (es ++ fs)
    | _, _ => none

end Sys2Proof.Machine
end

