-- ==== Sys2Proof/Safety.lean ====
section
/-! DEFINITION. The terms in which claims about the block are stated: the invariant of 10_state.md R48 and the rules
about single fields, a conforming collaborator, the flight of a projectile as a sequence of positions, the draws of a frame, the collaborator
under a sequence of requests, STEPs in a row, and the state with bit 7 of GT flipped. -/

namespace Sys2Proof

open Sys2Proof.Machine

/-- The invariant of the machine: each field holds what the spec says it always holds. -/
structure Safe (s : State) : Prop where
  /-- "0 <= GOOP_COUNTER <= 16" (R48 (1)). -/
  counter : s.goopCounter.toNat ≤ 16
  /-- While a trial runs the counter has not reached 0, so it never underflows (R37). -/
  counterLive : s.active = true → s.goopCounter ≠ 0
  /-- "Its values are always in 0 .. 7" (R38). -/
  timer : s.goopTimer.toNat ≤ 7
  /-- "ACTIVE and TERM are never both 1" (R23). -/
  notBoth : s.active = true → s.term = false
  /-- REASON is NONE exactly while no trial has terminated since START or reset (R24, R23). -/
  reasonTerm : s.reason = .none ↔ s.term = false
  /-- STEP and RUN are in the engine only with a trial ACTIVE (R172). -/
  inFlight : ∀ c, s.eng = .exec c ∨ s.eng = .hung c → needsTrial c = true → s.active = true
  /-- LF_VALID = 0 only with the whole record cleared (R31, R32). -/
  noRecord : s.lfValid = false → lastFireWord s = 0 ∧ s.fireSteps = 0
  /-- A completed test took at least one step and at most 2^31 + 1 (R32, R160). -/
  steps : s.lfValid = true → 1 ≤ s.fireSteps.toNat ∧ s.fireSteps.toNat ≤ 0x80000001
  /-- "In every result, F[7:0] = 0x00" (R104). -/
  trigLow : s.trigResult.extractLsb 7 0 = 0

/-- The collaborator answers every request (R58: "finite for a conforming collaborator", U4). -/
def Conforming (s : State) : Prop := ∀ q n, s.collaborator.answers q n = true

/-- No launch angle has velocity (0, 0), so no projectile test hangs (R160, R161). -/
def Params.Moving (p : Params) : Prop := ∀ a, ¬(trig p .cos p.projSpeed a = 0 ∧ trig p .sin p.projSpeed a = 0)

/-- The value that belongs to a side. -/
def bySide {α : Type} (side : Side) (left right : α) : α := if side = .left then left else right

/-- DIR[SIDE] as the amount a move adds to X (R116). -/
def dirStep (p : Params) (side : Side) : Half := if bySide side p.dir.left p.dir.right = .plus then 1 else -1

/-- The exit test, written out (R123). -/
def exitCrossed (p : Params) (side : Side) (x : Half) : Bool :=
  if bySide side p.dir.left p.dir.right = .plus then decide ((bySide side p.exitX.left p.exitX.right).toInt < x.toInt)
  else decide (x.toInt < (bySide side p.exitX.left p.exitX.right).toInt)

/-! ### The flight of a projectile, written out from R151 to R156 -/

/-- The launch angle (R152). -/
def flightAngle (p : Params) (side : Side) (r : Byte) : Byte :=
  bySide side p.baseAngle.left p.baseAngle.right + p.window.get r.toFin

/-- px after n steps (R151, R153, R154). -/
def flightX (p : Params) (x : Half) (side : Side) (r : Byte) (n : Nat) : Word :=
  ((x + bySide side p.spawnDx.left p.spawnDx.right) ++ 0#16) +
    BitVec.ofNat 32 n * trig p .cos p.projSpeed (flightAngle p side r)

/-- py after n steps (R151, R153, R154). -/
def flightY (p : Params) (y : Half) (side : Side) (r : Byte) (n : Nat) : Word :=
  ((y + p.spawnDy) ++ 0#16) + BitVec.ofNat 32 n * trig p .sin p.projSpeed (flightAngle p side r)

/-- The field check on the position after n steps: both integer parts, read unsigned, are below FIELD_BOUND (R155). -/
def inFieldAt (p : Params) (x y : Half) (side : Side) (r : Byte) (n : Nat) : Bool :=
  decide (((flightX p x side r n).extractLsb 31 16).toNat < p.fieldBound ∧
    ((flightY p y side r n).extractLsb 31 16).toNat < p.fieldBound)

/-- The hit test on the position after n steps: two strict comparisons of signed integer parts (R156). -/
def hitAt (p : Params) (x y : Half) (side : Side) (tx ty : Half) (r : Byte) (n : Nat) : Bool :=
  decide ((((flightX p x side r n).extractLsb 31 16).toInt - tx.toInt).natAbs < p.hbX.toNat ∧
    (((flightY p y side r n).extractLsb 31 16).toInt - ty.toInt).natAbs < p.hbY.toNat)

/-- The test ends at step n with this outcome and at no step before (R157). -/
def EndsAt (p : Params) (x y : Half) (side : Side) (tx ty : Half) (r : Byte) (hit : Bool) (n : Nat) : Prop :=
  1 ≤ n ∧
  (∀ k, 1 ≤ k → k < n → inFieldAt p x y side r k = true ∧ hitAt p x y side tx ty r k = false) ∧
  (hit = true → inFieldAt p x y side r n = true ∧ hitAt p x y side tx ty r n = true) ∧
  (hit = false → inFieldAt p x y side r n = false)

/-- The test never ends: every position after a step is in the field and no hit (R161). -/
def NeverEnds (p : Params) (x y : Half) (side : Side) (tx ty : Half) (r : Byte) : Prop :=
  ∀ n, 1 ≤ n → inFieldAt p x y side r n = true ∧ hitAt p x y side tx ty r n = false

/-! ### The draws of a frame and the timer that step 5 meets, from the state the frame starts in -/

/-- The reply to a draw of a kind (R56, R57). -/
def drawn (g : Rng) (kind : DrawKind) (n : Nat) : Byte × Nat := if kind = .roll then g.roll n else g.read n

/-- The collaborator's state when step 4 draws: after the TURRET draw, where step 1 makes one (R114). -/
def sigmaAtArm (s : State) : Nat :=
  if s.gt.toNat % 64 = 0 ∧ (s.side = .right ∨ s.inRange = false) then
    (drawn s.collaborator s.cfg.turretKind s.sigma).2
  else s.sigma

/-- The byte of the ARM draw of a frame that starts in range (R118). -/
def armByte (s : State) : Byte := (drawn s.collaborator s.cfg.armKind (sigmaAtArm s)).1

/-- GOOP_TIMER as step 5 meets it: 7 where step 4 arms it (R118), else as the frame started. -/
def timerAtStepFive (s : State) : Byte :=
  if s.inRange = true ∧ (armByte s).toNat % 16 = 0 then 7 else s.goopTimer

/-- The byte of the FIRE draw (R163), made after the ARM draw of a frame that starts in range. -/
def fireByte (s : State) : Byte :=
  (drawn s.collaborator s.cfg.fireKind
    (if s.inRange = true then (drawn s.collaborator s.cfg.armKind (sigmaAtArm s)).2 else sigmaAtArm s)).1

/-- X when step 5 runs: after `move()`, which the frame that enters range leaves out (R116 to R118). -/
def xAtStepFive (s : State) : Half :=
  if s.inRange = false ∧ (s.x.toInt - s.tx.toInt).natAbs < s.cfg.aggroX.toNat then s.x
  else s.x + dirStep s.cfg s.side

/-- Y when step 5 runs: recomputed by the oscillator from the ANGLE the frame starts with (R115). -/
def yAtStepFive (s : State) : Half := s.cfg.yBase + intPart (trig s.cfg .cos s.cfg.oscAmp s.angle)

/-- Step 5 fires: the timer expires and a goop is left after the decrement (R120). -/
abbrev Fires (s : State) : Prop := timerAtStepFive s = 1 ∧ s.goopCounter ≠ 1

/-- The frame fires a projectile whose test never ends (R134 (a), R161, R163). -/
def ShotNeverEnds (s : State) : Prop :=
  Fires s ∧ NeverEnds s.cfg (xAtStepFive s) (yAtStepFive s) s.side s.tx s.ty (fireByte s)

/-- The requests that a frame issues where every step runs and is answered, each by its own gate, in the order of R127.
A frame that terminates or hangs issues only the first of them. -/
def requestsDue (s : State) : List RngReq :=
  (if s.gt.toNat % 64 = 0 ∧ (s.side = .right ∨ s.inRange = false) then [.draw .turret s.cfg.turretKind] else []) ++
  (if s.inRange = true then [.draw .arm s.cfg.armKind] else []) ++
  (if Fires s then [.draw .fire s.cfg.fireKind] else []) ++
  (if s.gt.toNat % 128 = 0 then [.draw .periodic s.cfg.periodKind] else []) ++ [.advance]

/-! ### The collaborator under a sequence of requests -/

/-- The collaborator's state after it has answered a request (R56). -/
def sigmaAfter (g : Rng) : RngReq → Nat → Nat
  | .seed v, _ => g.seed v
  | .draw _ kind, n => (drawn g kind n).2
  | .advance, n => g.advance n

/-- The collaborator's state after a sequence of answered requests, applied in issue order (R58). -/
def sigmaAfterAll (g : Rng) : List RngReq → Nat → Nat
  | [], n => n
  | q :: l, n => sigmaAfterAll g l (sigmaAfter g q n)

/-- Each request of the sequence is answered in the state in which it is issued (R58). -/
def allAnswered (g : Rng) : List RngReq → Nat → Bool
  | [], _ => true
  | q :: l, n => g.answers q n && allAnswered g l (sigmaAfter g q n)

/-- n STEP commands in a row; one that does not complete is the last, since BUSY stays 1. -/
def stepsFrom : Nat → State → State
  | 0, s => s
  | n + 1, s =>
    match exec .step s with
    | .next t => if t.busy then t else stepsFrom n t
    | .fault _ => s
    | .refused _ => s

/-- The state with bit 7 of GT flipped (R128). -/
def flipGt (s : State) : State := { s with gt := s.gt ^^^ 0x80 }

/-- A function on the next state of an outcome. -/
def mapNext (f : State → State) : Host.Outcome State Fault Refusal → Host.Outcome State Fault Refusal
  | .next s => .next (f s)
  | .fault e => .fault e
  | .refused r => .refused r

/-- ERRCODE after `raise Error(code)`: the first error is kept (R193). -/
def recorded (e old : Err) : Err := if old = .none then e else old

/-- What a trial's course and outcome consist of (R206): the encounter state, its flags and the collaborator. -/
def SameTrial (s t : State) : Prop :=
  s.cfg = t.cfg ∧ s.side = t.side ∧ s.x = t.x ∧ s.y = t.y ∧ s.angle = t.angle ∧ s.goopCounter = t.goopCounter ∧
  s.goopTimer = t.goopTimer ∧ s.gt = t.gt ∧ s.inRange = t.inRange ∧ s.tx = t.tx ∧ s.ty = t.ty ∧
  s.active = t.active ∧ s.term = t.term ∧ s.reason = t.reason ∧ s.sigma = t.sigma ∧
  lastFireWord s = lastFireWord t ∧ s.fireSteps = t.fireSteps

end Sys2Proof
end

