-- ==== Sys2Proof/Certificates/Slice0/Obligations.lean ====
section
/-! DEFINITION. The statements for the provers, each about every state and every parameter set unless it says
otherwise. Titles and cites stand in OBLIGATIONS.json. -/

section

open Sys2Proof Sys2Proof.Machine

/-! ### Encoding -/

/-- Decoding an encoded command gives it back, every operand at every value of its field (R71, R72, R78, R79). -/
def Obligations.DecodeOfEncodeIsTheCommand : Prop := ∀ i : Instr, decode (encode i) = .command i

/-- A word that decodes is the encoding of its command (R71, R78). R76 gives all the words with OP = 0x0 to the one
NOP: that each of them is a command of its own here, with its hint bits, is the model's choice
(notes/assumptions/13.md), and only by it does the encoding give a NOP's word back. -/
def Obligations.LegalWordIsTheEncodingOfItsCommand : Prop :=
  ∀ (w : Word) (i : Instr), decode w = .command i → encode i = w

/-- The opcode map holds the eight rows of R73, and the decoder agrees with it: a command's word selects its row, every
word that selects a row decodes to that row's command, and at most one row matches any word (R73). -/
def Obligations.OpcodeMapSelectsExactlyTheDecodedRow : Prop :=
  opTable.map (fun r => (r.mnemonic, r.pattern, r.mask)) =
    [("NOP", 0x00000000, 0xF0000000), ("TRIG.COS", 0x10000000, 0xFFFF0000), ("TRIG.SIN", 0x20000000, 0xFFFF0000),
      ("START", 0x30000000, 0xFE000000), ("STEP", 0x40000000, 0xFFFFFFFF), ("RUN", 0x50000000, 0xFFFFFFFF),
      ("FIRE", 0x60000000, 0xFFFFFE00), ("CLRERR", 0x70000000, 0xFFFFFFFF)] ∧
  (∀ (w : Word) (i : Instr), decode w = .command i → i.row ∈ opTable ∧ i.row.selects w = true) ∧
  (∀ (w : Word) (r : OpRow), r ∈ opTable → r.selects w = true → ∃ i, decode w = .command i ∧ i.row = r) ∧
  (∀ (w : Word) (r₁ r₂ : OpRow), r₁ ∈ opTable → r₂ ∈ opTable → r₁.selects w = true → r₂.selects w = true → r₁ = r₂)

/-- Words of section 3.4 of 95_test_vectors.md decode as its table says. -/
def Obligations.SampleWordsDecode : Prop :=
  decode 0x0FFFFFFF = .command (.nop 0xFFFFFFF) ∧
  decode 0x10002080 = .command (.trigCos 0x20 0x80) ∧
  decode 0x200020A0 = .command (.trigSin 0x20 0xA0) ∧
  decode 0x317E0001 = .command (.start .right 0x7E 0x0001) ∧
  decode 0x307E000A = .command (.start .left 0x7E 0x000A) ∧
  decode 0x40000000 = .command .step ∧
  decode 0x50000000 = .command .run ∧
  decode 0x60000101 = .command (.fire .right 0x01) ∧
  decode 0x70000000 = .command .clrErr ∧
  decode 0x3E000000 = .illegal .reservedBits ∧
  decode 0x80000000 = .illegal .reservedOpcode

/-- Every word with OP = 0x0 executes as NOP, whatever bits [27:0] hold (R76). -/
def Obligations.EveryHintWordExecutesAsNop : Prop :=
  ∀ w : Word, w.extractLsb 31 28 = 0 →
    ∃ hint, decode w = .command (.nop hint) ∧ ∀ s : State, exec (.nop hint) s = exec (.nop 0) s ∧
      exec (.nop hint) s = .next { s with eng := .idle }

/-- The assembler refuses an operand that does not fit and otherwise puts each operand unchanged into its field
(R79, R72). -/
def Obligations.AssemblerPlacesOperandsOrRefuses : Prop :=
  (∀ a : AsmCmd, assemble a = none ↔ a.fits = false) ∧
  (∀ (a : AsmCmd) (w : Word), assemble a = some w → decode w = .command a.command) ∧
  (∀ (amp angle : Nat) (w : Word), assemble (.trigCos amp angle) = some w →
    w.toNat = 0x10000000 + 256 * amp + angle) ∧
  (∀ (amp angle : Nat) (w : Word), assemble (.trigSin amp angle) = some w →
    w.toNat = 0x20000000 + 256 * amp + angle) ∧
  (∀ (side phase seed : Nat) (w : Word), assemble (.start side phase seed) = some w →
    w.toNat = 0x30000000 + 2 ^ 24 * side + 2 ^ 16 * phase + seed) ∧
  (∀ (side r : Nat) (w : Word), assemble (.fire side r) = some w → w.toNat = 0x60000000 + 256 * side + r) ∧
  (∀ (imm : Nat) (w : Word), assemble (.nopH imm) = some w → w.toNat = imm)

/-! ### The step and the host's accesses -/

/-- When ENG holds a command and the engine moves (an engine event, a poll, or nothing pending), the step is `exec`
of that command; around it the step only takes the event off the list (a poll stays). -/
def Obligations.EngineMoveRunsTheCommandInEng : Prop :=
  ∀ (s : State) (c : Instr) (rest : List Event), s.eng = .exec c →
    (s.events = [] → step s = exec c s) ∧
    (s.events = .engine :: rest → step s = exec c { s with events := rest }) ∧
    (s.events = .wait :: rest → step s = exec c s)

/-- A word that decodes, written to CMD of an idle block and followed by the engine's move, runs as `exec` of its
command in two steps; placed by `withFetchWord` it runs in one. -/
def Obligations.DecodedWordRunsItsCommand : Prop :=
  ∀ (s : State) (w : Word) (i : Instr) (rest : List Event), decode w = .command i →
    step (s.withFetchWord 32 w.toNat) = exec i { s with eng := .exec i } ∧
    (s.events = cmdWrite s.cfg.blockBase w :: .engine :: rest → s.eng = .idle →
      (needsTrial i = true → s.active = true) →
      step s = .next { s with events := .engine :: rest, eng := .exec i } ∧
      step { s with events := .engine :: rest, eng := .exec i } = exec i { s with events := rest, eng := .exec i })

/-- With nothing to do an idle block keeps all state (R204), and a poll of an idle block reads STATUS and changes
nothing else (R80, R173). -/
def Obligations.IdleBlockKeepsAllState : Prop :=
  ∀ (s : State) (rest : List Event), s.eng = .idle →
    (s.events = [] → step s = .next s) ∧
    (s.events = .engine :: rest → step s = .next { s with events := rest }) ∧
    (s.events = .wait :: rest → step s = .next { s with events := rest, rdata := statusWord s })

/-- The order of the checks on a host write, and that a dropped write records its error and does nothing else
(R195, R194). -/
def Obligations.HostWriteErrorsFollowThePriority : Prop :=
  ∀ (s : State) (off : Nat) (v : Word) (rest : List Event),
    s.events = .access ⟨s.cfg.blockBase + off, 32, .write v⟩ :: rest → (off = 0x00 ∨ off = 0x0C ∨ off = 0x10) →
    (s.busy = true → step s = .next { s with events := rest, err := recorded .busyOverrun s.err }) ∧
    (s.busy = false → off = 0x00 → (∀ c, decode v ≠ .command c) →
      step s = .next { s with events := rest, err := recorded .illegalCmd s.err }) ∧
    (s.busy = false → off = 0x00 → (decode v = .command .step ∨ decode v = .command .run) → s.active = false →
      step s = .next { s with events := rest, err := recorded .notActive s.err }) ∧
    (s.busy = false → (off = 0x0C ∨ off = 0x10) → s.active = true →
      step s = .next { s with events := rest, err := recorded .locked s.err })

/-- OP 0x8 .. 0xF, and OP 0x1 .. 0x7 with a reserved bit set, raise ILLEGAL_CMD (code 1); the word is not executed
and has no other effect (R75, R74). -/
def Obligations.IllegalWordsRaiseIllegalCmd : Prop :=
  Err.code .illegalCmd = 1 ∧
  ∀ (s : State) (w : Word) (rest : List Event), s.events = cmdWrite s.cfg.blockBase w :: rest → s.busy = false →
    (8 ≤ (w.extractLsb 31 28).toNat ∨
      ((w.extractLsb 31 28).toNat = 1 ∨ (w.extractLsb 31 28).toNat = 2) ∧ w.extractLsb 27 16 ≠ 0 ∨
      (w.extractLsb 31 28).toNat = 3 ∧ w.extractLsb 27 25 ≠ 0 ∨
      ((w.extractLsb 31 28).toNat = 4 ∨ (w.extractLsb 31 28).toNat = 5 ∨ (w.extractLsb 31 28).toNat = 7) ∧
        w.extractLsb 27 0 ≠ 0 ∨
      (w.extractLsb 31 28).toNat = 6 ∧ w.extractLsb 27 9 ≠ 0) →
    step s = .next { s with events := rest, err := recorded .illegalCmd s.err }

/-- The first error is kept, and ERRCODE returns to 0 only through CLRERR or Reset() (R193, R197). -/
def Obligations.ErrcodeClearsOnlyByClrerrOrReset : Prop :=
  ∀ (s t : State), s.err ≠ .none → step s = .next t →
    t.err = s.err ∨
    t.err = .none ∧ ((∃ rest, s.events = .reset :: rest) ∨ s.eng = .exec .clrErr)

/-- An error is raised only by a host write, for one of the four causes of R191 and no other (R191, R192, R177,
R178); in states where STEP and RUN are in the engine only with a trial ACTIVE. -/
def Obligations.ErrorsHaveOnlyTheListedCauses : Prop :=
  ∀ (s t : State), Safe s → s.err = .none → step s = .next t → t.err ≠ .none →
    ∃ (off : Nat) (v : Word) (rest : List Event),
      s.events = .access ⟨s.cfg.blockBase + off, 32, .write v⟩ :: rest ∧
      t = { s with events := rest, err := t.err } ∧
      (t.err = .illegalCmd ∧ off = 0x00 ∧ s.busy = false ∧ (∀ c, decode v ≠ .command c) ∨
        t.err = .notActive ∧ off = 0x00 ∧ s.busy = false ∧ s.active = false ∧
          (decode v = .command .step ∨ decode v = .command .run) ∨
        t.err = .busyOverrun ∧ s.busy = true ∧ (off = 0x00 ∨ off = 0x0C ∨ off = 0x10) ∨
        t.err = .locked ∧ s.busy = false ∧ s.active = true ∧ (off = 0x0C ∨ off = 0x10))

/-- A write to POS (offset 0x0C) or TARGET (0x10): BUSY_OVERRUN while BUSY = 1, else LOCKED while ACTIVE = 1, else
the low half of the word goes to X (TX) and the high half to Y (TY), and nothing else changes (R174, R175). -/
def Obligations.PosAndTargetWritesFollowTheirRules : Prop :=
  ∀ (s : State) (v : Word) (rest : List Event),
    (s.events = .access ⟨s.cfg.blockBase + 0x0C, 32, .write v⟩ :: rest →
      (s.busy = true → step s = .next { s with events := rest, err := recorded .busyOverrun s.err }) ∧
      (s.busy = false → s.active = true → step s = .next { s with events := rest, err := recorded .locked s.err }) ∧
      (s.busy = false → s.active = false →
        ∃ x y : Half, step s = .next { s with events := rest, x := x, y := y } ∧
          v.toNat = 65536 * y.toNat + x.toNat)) ∧
    (s.events = .access ⟨s.cfg.blockBase + 0x10, 32, .write v⟩ :: rest →
      (s.busy = true → step s = .next { s with events := rest, err := recorded .busyOverrun s.err }) ∧
      (s.busy = false → s.active = true → step s = .next { s with events := rest, err := recorded .locked s.err }) ∧
      (s.busy = false → s.active = false →
        ∃ tx ty : Half, step s = .next { s with events := rest, tx := tx, ty := ty } ∧
          v.toNat = 65536 * ty.toNat + tx.toNat))

/-- A write to a read-only register or a reserved offset changes no state, ERRCODE included, busy or not (R176). -/
def Obligations.ReadOnlyWritesAreIgnored : Prop :=
  ∀ (s : State) (off : Nat) (v : Word) (rest : List Event),
    s.events = .access ⟨s.cfg.blockBase + off, 32, .write v⟩ :: rest → off < 0x40 → off % 4 = 0 →
    off ≠ 0x00 → off ≠ 0x0C → off ≠ 0x10 → step s = .next { s with events := rest }

/-- STATUS, CMD and the reserved offsets read exactly, busy or not; the read changes no register; the fields of
STATUS stand at the bits of R23, REASON and ERRCODE with the codes of R24 and R191 (R173, R226). -/
def Obligations.StatusReadsExactlyEvenWhileBusy : Prop :=
  ∀ (s : State) (off : Nat) (rest : List Event),
    s.events = .access ⟨s.cfg.blockBase + off, 32, .read⟩ :: rest → off < 0x40 → off % 4 = 0 →
    (off = 0x00 ∨ 0x24 ≤ off → step s = .next { s with events := rest, rdata := 0 }) ∧
    (off = 0x04 → ∃ w : Word, step s = .next { s with events := rest, rdata := w } ∧
      (w.getLsbD 0 = true ↔ s.eng ≠ .idle) ∧ w.getLsbD 1 = s.active ∧ w.getLsbD 2 = s.term ∧
      (w.getLsbD 3 = true ↔ s.reason = .hit) ∧ w.extractLsb 7 6 = 0 ∧ w.extractLsb 31 12 = 0 ∧
      (s.reason = .none → w.extractLsb 5 4 = 0) ∧ (s.reason = .hit → w.extractLsb 5 4 = 1) ∧
      (s.reason = .missGoop → w.extractLsb 5 4 = 2) ∧ (s.reason = .missExit → w.extractLsb 5 4 = 3) ∧
      (s.err = .none → w.extractLsb 11 8 = 0) ∧ (s.err = .illegalCmd → w.extractLsb 11 8 = 1) ∧
      (s.err = .notActive → w.extractLsb 11 8 = 2) ∧ (s.err = .busyOverrun → w.extractLsb 11 8 = 3) ∧
      (s.err = .locked → w.extractLsb 11 8 = 4))

/-- With BUSY = 0 every result register reads what its rule says, and the read changes no register (R26 to R32,
R173). -/
def Obligations.ResultRegistersReadTheirFieldsWhenIdle : Prop :=
  ∀ (s : State) (off : Nat) (rest : List Event),
    s.events = .access ⟨s.cfg.blockBase + off, 32, .read⟩ :: rest → s.busy = false → off < 0x40 → off % 4 = 0 →
    ∃ w : Word, step s = .next { s with events := rest, rdata := w } ∧
      (off = 0x08 → w = s.trigResult) ∧
      (off = 0x0C → w.extractLsb 15 0 = s.x ∧ w.extractLsb 31 16 = s.y) ∧
      (off = 0x10 → w.extractLsb 15 0 = s.tx ∧ w.extractLsb 31 16 = s.ty) ∧
      (off = 0x14 → w.extractLsb 7 0 = s.angle ∧ w.extractLsb 15 8 = s.goopCounter ∧
        w.extractLsb 23 16 = s.goopTimer ∧ w.extractLsb 31 24 = s.gt) ∧
      (off = 0x18 → (w.getLsbD 0 = true ↔ s.side = .right) ∧ w.getLsbD 1 = s.inRange ∧ w.extractLsb 31 2 = 0) ∧
      (off = 0x1C → w.extractLsb 7 0 = s.lfAngle ∧ w.extractLsb 15 8 = s.lfR ∧ w.getLsbD 16 = s.lfHit ∧
        w.getLsbD 17 = s.lfValid ∧ (w.getLsbD 18 = true ↔ s.lfSrc = .command) ∧ w.extractLsb 31 19 = 0) ∧
      (off = 0x20 → w = s.fireSteps)

/-- With BUSY = 1 a read of a result register returns a free value and changes nothing of the block's own (R226); the
model's counter of free values advances. -/
def Obligations.BusyReadsReturnAFreeValue : Prop :=
  ∀ (s : State) (off : Nat) (rest : List Event),
    s.events = .access ⟨s.cfg.blockBase + off, 32, .read⟩ :: rest → s.busy = true → off % 4 = 0 → 0x08 ≤ off →
    off ≤ 0x20 →
    step s = .next
      { s with events := rest, rdata := Config.freeWord s.freeCount, freeCount := s.freeCount + 1 }

/-- The access decoder refuses exactly the accesses the interface cannot express (R51), and nothing else ever stops
the machine: no computation raises an exception (R190). -/
def Obligations.OnlyInexpressibleAccessesStopTheMachine : Prop :=
  (∀ (s : State) (a : Access) (rest : List Event), s.events = .access a :: rest →
    ((∃ t, step s = .next t) ↔
      a.width = 32 ∧ s.cfg.blockBase ≤ a.addr ∧ a.addr < s.cfg.blockBase + 0x40 ∧
        (a.addr - s.cfg.blockBase) % 4 = 0)) ∧
  (∀ s : State, (∃ t, step s = .next t) ∨
    ∃ why a rest, s.events = .access a :: rest ∧ step s = .refused (.badAccess why))

/-! ### Reset and what no step changes -/

/-- Every register is at the value of R47 after power-on reset; the values of the model's own fields are the model's
choice (notes/assumptions/8.md) and are not stated here. -/
def Obligations.PowerOnRegisterValues : Prop :=
  regWord 0x04 State.reset = 0 ∧ regWord 0x08 State.reset = 0 ∧ regWord 0x0C State.reset = 0 ∧
  regWord 0x10 State.reset = 0 ∧ regWord 0x14 State.reset = 0 ∧ regWord 0x18 State.reset = 0 ∧
  regWord 0x1C State.reset = 0 ∧ regWord 0x20 State.reset = 0 ∧ State.reset.eng = .idle ∧
  State.reset.side = .left ∧ State.reset.inRange = false ∧ State.reset.lfValid = false

/-- Reset() at any time, a running or hung command included, sets every register to R47's value, issues no RNG
request, and leaves SIN_LUT, the parameters and (with no command running) the collaborator unchanged (R221, R222,
R223, R231). -/
def Obligations.ResetEventClearsEveryRegister : Prop :=
  ∀ (s : State) (rest : List Event), s.events = .reset :: rest →
    ∃ n m, step s = .next
      { s with
        events := rest, sigma := n, freeCount := m
        x := 0, y := 0, angle := 0, goopCounter := 0, goopTimer := 0, gt := 0, side := .left, inRange := false
        tx := 0, ty := 0, active := false, term := false, reason := .none, err := .none, trigResult := 0
        lfAngle := 0, lfR := 0, lfHit := false, lfValid := false, lfSrc := .encounter, fireSteps := 0
        eng := .idle } ∧ (s.busy = false → n = s.sigma)

/-- SIN_LUT and the parameters are fixed when the block is built: no step writes them (R223). -/
def Obligations.ParametersNeverChange : Prop :=
  ∀ s t : State, step s = .next t → t.cfg = s.cfg

/-- Only a host write to TARGET on an idle block without a trial, or Reset(), changes TX or TY (R42, R28, R229). -/
def Obligations.TargetIsLockedDuringATrial : Prop :=
  ∀ s t : State, step s = .next t → (t.tx ≠ s.tx ∨ t.ty ≠ s.ty) →
    (∃ rest, s.events = .reset :: rest) ∨
    s.busy = false ∧ s.active = false ∧
      ∃ v rest, s.events = .access ⟨s.cfg.blockBase + 0x10, 32, .write v⟩ :: rest

/-- Once IN_RANGE = 1 it stays 1 until the next START or Reset() (R48 (2), R41). -/
def Obligations.InRangeStaysSetUntilStart : Prop :=
  ∀ s t : State, step s = .next t → s.inRange = true → t.inRange = false →
    (∃ rest, s.events = .reset :: rest) ∨ ∃ side phase seed, s.eng = .exec (.start side phase seed)

/-- The RNG port's log only grows, and only START, STEP and RUN issue requests (R56, R58, R100, R159, R170). -/
def Obligations.OnlyTrialCommandsIssueRequests : Prop :=
  ∀ s t : State, step s = .next t →
    (∃ l, t.rngLog = s.rngLog ++ l) ∧
    (t.rngLog ≠ s.rngLog →
      s.eng = .exec .step ∨ s.eng = .exec .run ∨ ∃ side phase seed, s.eng = .exec (.start side phase seed))

/-- The invariant holds after power-on. -/
def Obligations.PowerOnStateIsSafe : Prop := Safe State.reset

/-- Every step keeps the invariant: the counter and timer ranges, the flag rules, the record of the last projectile
and the reserved fraction bits (R23, R24, R37, R38, R48, R32, R104). -/
def Obligations.EveryStepKeepsTheInvariant : Prop :=
  ∀ s t : State, Safe s → step s = .next t → Safe t

/-! ### The trig unit -/

/-- TRIG.COS and TRIG.SIN complete in every state and write TRIG_RESULT with the split-negated product of amplitude
and table magnitude; nothing else changes but ENG (R91 to R97, R100, R101). -/
def Obligations.TrigCommandsWriteTheSplitNegatedProduct : Prop :=
  ∀ (s : State) (amp angle : Byte),
    (∃ w : Word, exec (.trigCos amp angle) s = .next { s with trigResult := w, eng := .idle } ∧
      let m := s.cfg.sinLut.get (angle + 0x40).toFin
      let n := if s.cfg.signSrc = .shifted then 0x80 ≤ (angle + 0x40).toNat else 0x80 ≤ angle.toNat
      let i := amp.toNat * m.toNat / 256
      let f := amp.toNat * m.toNat % 256 * 256
      (¬n → w.toNat = 65536 * i + f) ∧
      (n → w.toNat = 65536 * ((65536 - i) % 65536) + (65536 - f) % 65536)) ∧
    (∃ w : Word, exec (.trigSin amp angle) s = .next { s with trigResult := w, eng := .idle } ∧
      let m := s.cfg.sinLut.get angle.toFin
      let i := amp.toNat * m.toNat / 256
      let f := amp.toNat * m.toNat % 256 * 256
      (angle.toNat < 0x80 → w.toNat = 65536 * i + f) ∧
      (0x80 ≤ angle.toNat → w.toNat = 65536 * ((65536 - i) % 65536) + (65536 - f) % 65536))

/-- The signed value of a negated result, in units of 1/65536 with V = P/256: exactly -V where P[7:0] = 0, and
-V + 1 otherwise, where the integer field differs from that of a combined negation (R98). -/
def Obligations.SplitNegationIsOneAboveTheTrueNegation : Prop :=
  ∀ (p : Params) (k : TrigKind) (amp θ : Byte), negates p k θ = true →
    let P := product p k amp θ
    (lowByte P = 0 → (trig p k amp θ).toInt = -(256 * (P.toNat : Int))) ∧
    (lowByte P ≠ 0 → (trig p k amp θ).toInt = -(256 * (P.toNat : Int)) + 65536 ∧
      intPart (trig p k amp θ) = neg16 ((highByte P).zeroExtend 16) ∧
      intPart (0 - (productInt P ++ productFrac P)) = neg16 ((highByte P).zeroExtend 16 + 1))

/-- A negated result of magnitude below one is positive (R99). -/
def Obligations.SplitNegationOfAFractionIsPositive : Prop :=
  ∀ (p : Params) (k : TrigKind) (amp θ : Byte), negates p k θ = true →
    highByte (product p k amp θ) = 0 → lowByte (product p k amp θ) ≠ 0 →
    trig p k amp θ = 0x0000#16 ++ neg16 (lowByte (product p k amp θ) ++ 0x00#8) ∧
    (trig p k amp θ).toInt = 65536 - 256 * ((product p k amp θ).toNat : Int) ∧ 0 < (trig p k amp θ).toInt

/-- The range of results (R104), with the converse that R161 uses: the result is 0 only when P = 0. -/
def Obligations.TrigResultRange : Prop :=
  ∀ (p : Params) (k : TrigKind) (amp θ : Byte),
    (trig p k amp θ).extractLsb 7 0 = 0 ∧
    (negates p k θ = false → (intPart (trig p k amp θ)).toNat ≤ 0x00FE) ∧
    (negates p k θ = true → intPart (trig p k amp θ) = 0 ∧ highByte (product p k amp θ) = 0 ∨
      0xFF02 ≤ (intPart (trig p k amp θ)).toNat) ∧
    (trig p k amp θ = 0 ↔ product p k amp θ = 0)

/-- TRIG.SIN with amplitude 1 reads the table back (R103). -/
def Obligations.SineWithAmplitudeOneReadsTheTable : Prop :=
  ∀ (st : State) (s : Byte), ∃ w : Word,
    exec (.trigSin 0x01 s) st = .next { st with trigResult := w, eng := .idle } ∧
    let m := lut st.cfg s
    (s.getLsbD 7 = false → w = 0x0000#16 ++ (m ++ 0x00#8)) ∧
    (s.getLsbD 7 = true → w = 0x0000#16 ++ neg16 (m ++ 0x00#8) ∧ m = 0 - w.extractLsb 15 8)

/-- The two sign sources differ exactly for COS with bit 6 of θ set, that is θ in 0x40 .. 0x7F and 0xC0 .. 0xFF (from
the two definitions of n in R95; R95's own sentence names another range, notes/assumptions/27.md), and with SHIFTED the
sine is the cosine a quarter turn earlier (R101). -/
def Obligations.SignSourcesDifferExactlyForCosineWithBitSix : Prop :=
  (∀ (p : Params) (k : TrigKind) (θ : Byte),
    negates { p with signSrc := .shifted } k θ ≠ negates { p with signSrc := .unshifted } k θ ↔
      k = .cos ∧ (0x40 ≤ θ.toNat ∧ θ.toNat ≤ 0x7F ∨ 0xC0 ≤ θ.toNat)) ∧
  (∀ (p : Params) (amp θ : Byte), p.signSrc = .shifted → trig p .sin amp θ = trig p .cos amp (θ - 0x40))

/-! ### START, NOP, CLRERR -/

/-- START, where the collaborator answers its SEED request, gives the encounter R110's initial state and the
collaborator seed(SEED), and leaves TX, TY, TRIG_RESULT and ERRCODE unchanged; where the collaborator never answers,
START holds BUSY = 1 (R58). That no register changes then and that the log has the unanswered request is the model's
choice (notes/assumptions/9.md, 25.md). -/
def Obligations.StartGivesTheInitialEncounterState : Prop :=
  ∀ (s : State) (side : Side) (phase : Byte) (seed : Half),
    (s.collaborator.answers (.seed seed) s.sigma = true →
      exec (.start side phase seed) s = .next
        { s with
          sigma := s.collaborator.seed seed, rngLog := s.rngLog ++ [.seed seed]
          side := side, gt := phase
          x := if side = .left then s.cfg.spawnX.left else s.cfg.spawnX.right
          y := 0, angle := s.cfg.angleInit, goopCounter := 16, goopTimer := 0, inRange := false
          active := true, term := false, reason := .none
          lfAngle := 0, lfR := 0, lfHit := false, lfValid := false, lfSrc := .encounter, fireSteps := 0
          eng := .idle }) ∧
    (s.collaborator.answers (.seed seed) s.sigma = false →
      exec (.start side phase seed) s = .next
        { s with rngLog := s.rngLog ++ [.seed seed], eng := .hung (.start side phase seed) })

/-- NOP and CLRERR complete in every state: NOP changes nothing but ENG, CLRERR clears ERRCODE (R170, R171). -/
def Obligations.NopAndClrerrComplete : Prop :=
  ∀ (s : State) (hint : BitVec 28),
    exec (.nop hint) s = .next { s with eng := .idle } ∧
    exec .clrErr s = .next { s with err := .none, eng := .idle }

/-- TRIG.COS, TRIG.SIN, FIRE, NOP and CLRERR disturb no trial: no encounter field, target, trial flag, RNG state or
request changes (R228, R100, R159). -/
def Obligations.BookkeepingCommandsDisturbNoTrial : Prop :=
  ∀ (s t : State) (i : Instr),
    ((∃ h, i = .nop h) ∨ (∃ a b, i = .trigCos a b) ∨ (∃ a b, i = .trigSin a b) ∨ (∃ d r, i = .fire d r) ∨
      i = .clrErr) → exec i s = .next t →
    t = { s with trigResult := t.trigResult, err := t.err, lfAngle := t.lfAngle, lfR := t.lfR, lfHit := t.lfHit,
                 lfValid := t.lfValid, lfSrc := t.lfSrc, fireSteps := t.fireSteps, eng := t.eng } ∧
    (t.trigResult ≠ s.trigResult → (∃ a b, i = .trigCos a b) ∨ ∃ a b, i = .trigSin a b) ∧
    (t.err ≠ s.err → i = .clrErr) ∧
    (lastFireWord t ≠ lastFireWord s ∨ t.fireSteps ≠ s.fireSteps → ∃ d r, i = .fire d r)

/-! ### The frame -/

/-- STEP and RUN with ACTIVE = 0 are refused with NOT_ACTIVE (code 2) and change no state other than ERRCODE: offered
to an idle block, and met by the engine (R135). -/
def Obligations.StepAndRunWithoutATrialAreRefused : Prop :=
  Err.code .notActive = 2 ∧
  ∀ (s : State) (rest : List Event) (w : Word), s.active = false → s.eng = .idle →
    (w = 0x40000000 ∨ w = 0x50000000) →
    (s.events = cmdWrite s.cfg.blockBase w :: rest →
      step s = .next { s with events := rest, err := recorded .notActive s.err }) ∧
    exec .step s = .next { s with err := recorded .notActive s.err } ∧
    exec .run s = .next { s with err := recorded .notActive s.err }

/-- STEP completes whenever a trial is ACTIVE, the collaborator answers and no launch velocity is zero; then the trial
either goes on or has terminated with a reason (R111, R113, R15). -/
def Obligations.StepCompletesWithAnActiveTrial : Prop :=
  ∀ s : State, s.active = true → Conforming s → s.cfg.fieldOk = true → s.cfg.Moving →
    ∃ t, exec .step s = .next t ∧ t.eng = .idle ∧
      (t.active = true ∧ t.term = s.term ∧ t.reason = s.reason ∨
        t.active = false ∧ t.term = true ∧ t.reason ≠ .none)

/-- A frame without draws and without a countdown: approaching, it moves one unit toward the exit, recomputes Y from
the ANGLE it started with, increments GT and issues one ADVANCE; within the aggro distance it sets IN_RANGE instead
of moving (R114 to R117, R121 to R124). -/
def Obligations.QuietFrameMovesOrEntersRange : Prop :=
  ∀ s : State, s.active = true → s.inRange = false → s.goopTimer = 0 → s.gt &&& 0x3F ≠ 0 → s.gt &&& 0x7F ≠ 0 →
    s.collaborator.answers .advance s.sigma = true →
    let near := ((s.x.toInt - s.tx.toInt).natAbs < s.cfg.aggroX.toNat)
    (near → exitCrossed s.cfg s.side s.x = false →
      exec .step s = .next
        { s with
          y := s.cfg.yBase + intPart (trig s.cfg .cos s.cfg.oscAmp s.angle), inRange := true, gt := s.gt + 1
          sigma := s.collaborator.advance s.sigma, rngLog := s.rngLog ++ [.advance], eng := .idle }) ∧
    (¬near → exitCrossed s.cfg s.side (s.x + dirStep s.cfg s.side) = false →
      exec .step s = .next
        { s with
          y := s.cfg.yBase + intPart (trig s.cfg .cos s.cfg.oscAmp s.angle)
          x := s.x + dirStep s.cfg s.side, angle := s.angle + 1, gt := s.gt + 1
          sigma := s.collaborator.advance s.sigma, rngLog := s.rngLog ++ [.advance], eng := .idle })

/-- In every frame that completes except the one in which IN_RANGE becomes 1, X changes by exactly DIR[SIDE] and ANGLE
by exactly +1; in that one neither changes; Y is recomputed from the ANGLE the frame started with (R48 (3), R34, R36,
R115). -/
def Obligations.FrameMovesByExactlyOneUnlessItEntersRange : Prop :=
  ∀ s t : State, s.active = true → exec .step s = .next t → t.eng = .idle →
    (t.inRange = s.inRange → t.x = s.x + dirStep s.cfg s.side ∧ t.angle = s.angle + 1) ∧
    (t.inRange ≠ s.inRange → s.inRange = false ∧ t.x = s.x ∧ t.angle = s.angle ∧
      (s.x.toInt - s.tx.toInt).natAbs < s.cfg.aggroX.toNat) ∧
    t.y = s.cfg.yBase + intPart (trig s.cfg .cos s.cfg.oscAmp s.angle)

/-- What STEP and RUN leave unchanged whatever they do: SIDE, TARGET, ERRCODE, TRIG_RESULT, the parameters and the
host's side (R28, R40, R102, R113, R194). -/
def Obligations.FramesLeaveTheRestUnchanged : Prop :=
  ∀ (s t : State) (i : Instr), (i = .step ∨ i = .run) → s.active = true → exec i s = .next t →
    t = { s with x := t.x, y := t.y, angle := t.angle, goopCounter := t.goopCounter, goopTimer := t.goopTimer,
                 gt := t.gt, inRange := t.inRange, active := t.active, term := t.term, reason := t.reason,
                 lfAngle := t.lfAngle, lfR := t.lfR, lfHit := t.lfHit, lfValid := t.lfValid, lfSrc := t.lfSrc,
                 fireSteps := t.fireSteps, eng := t.eng, sigma := t.sigma, rngLog := t.rngLog }

/-- The RNG requests of one frame, completed or not, are a subsequence of TURRET, ARM, FIRE, PERIODIC, ADVANCE in this
order; a terminating frame issues no ADVANCE, a continuing one does, and one that terminates at step 5 no PERIODIC
either (R127). -/
def Obligations.FrameRequestsComeInTheFixedOrder : Prop :=
  ∀ s t : State, s.active = true → s.reason = .none → exec .step s = .next t →
    ∃ l : List RngReq, t.rngLog = s.rngLog ++ l ∧
      l.Sublist [.draw .turret (s.cfg.drawKind .turret), .draw .arm (s.cfg.drawKind .arm),
        .draw .fire (s.cfg.drawKind .fire), .draw .periodic (s.cfg.drawKind .periodic), .advance] ∧
      l.length ≤ 5 ∧ (t.eng = .idle → (.advance ∈ l ↔ t.active = true)) ∧
      (t.reason = .hit ∨ t.reason = .missGoop → .draw .periodic (s.cfg.drawKind .periodic) ∉ l)

/-- When a completed frame draws at each site: TURRET by R114's gate, which the right side passes even in range
(R136); ARM exactly in a frame that starts in range (R118, R119); PERIODIC by R121 unless step 5 terminated. And what
all its requests do: each has been answered, and the collaborator is left in the state after them, applied in issue
order (R56, R58). -/
def Obligations.FrameDrawsExactlyWhenTheGatesOpen : Prop :=
  ∀ s t : State, s.active = true → s.reason = .none → exec .step s = .next t → t.eng = .idle →
    ∃ l : List RngReq, t.rngLog = s.rngLog ++ l ∧
      (.draw .turret (s.cfg.drawKind .turret) ∈ l ↔
        s.gt.toNat % 64 = 0 ∧ (s.side = .right ∨ s.inRange = false)) ∧
      (.draw .arm (s.cfg.drawKind .arm) ∈ l ↔ s.inRange = true) ∧
      (.draw .periodic (s.cfg.drawKind .periodic) ∈ l ↔
        s.gt.toNat % 128 = 0 ∧ t.reason ≠ .hit ∧ t.reason ≠ .missGoop) ∧
      allAnswered s.collaborator l s.sigma = true ∧ t.sigma = sigmaAfterAll s.collaborator l s.sigma

/-- How each way of termination leaves GT and the requests (R133): at step 5 the final GT is the one the frame started
with and no PERIODIC draw is issued, at step 8 GT has been incremented; a MISS_GOOP frame issues no FIRE draw, a HIT
frame issues one. The shot, too: a timer of 1 at step 5 with a goop left after the decrement runs the projectile test
with the FIRE byte from X after the move and the recomputed Y (R163), its outcome decides HIT, and it is the test that
LAST_FIRE and FIRE_STEPS record; a frame without a shot leaves the record and is no HIT (R120, R157). -/
def Obligations.TerminationLeavesGtAndDrawsAsStated : Prop :=
  ∀ s t : State, s.active = true → s.reason = .none → exec .step s = .next t → t.eng = .idle →
    ∃ l : List RngReq, t.rngLog = s.rngLog ++ l ∧
      (t.reason = .missGoop → t.gt = s.gt ∧ t.goopCounter = 0 ∧ .draw .fire (s.cfg.drawKind .fire) ∉ l ∧
        .draw .periodic (s.cfg.drawKind .periodic) ∉ l) ∧
      (t.reason = .hit → t.gt = s.gt ∧ .draw .fire (s.cfg.drawKind .fire) ∈ l ∧
        .draw .periodic (s.cfg.drawKind .periodic) ∉ l ∧ t.lfHit = true ∧ t.lfSrc = .encounter) ∧
      (t.reason = .missExit → t.gt = s.gt + 1 ∧ exitCrossed s.cfg s.side t.x = true) ∧
      (t.reason = .none → t.gt = s.gt + 1 ∧ exitCrossed s.cfg s.side t.x = false) ∧
      (timerAtStepFive s = 1 ∧ s.goopCounter ≠ 1 →
        EndsAt s.cfg t.x t.y s.side s.tx s.ty (fireByte s) t.lfHit t.fireSteps.toNat ∧
        (t.reason = .hit ↔ t.lfHit = true) ∧ t.lfR = fireByte s ∧ t.lfAngle = flightAngle s.cfg s.side (fireByte s) ∧
        t.lfValid = true ∧ t.lfSrc = .encounter) ∧
      (¬(timerAtStepFive s = 1 ∧ s.goopCounter ≠ 1) →
        t.reason ≠ .hit ∧ lastFireWord t = lastFireWord s ∧ t.fireSteps = s.fireSteps)

/-- The countdown, in every completed frame that starts in range, with or without a TURRET draw before the ARM draw: an
ARM byte with low 4 bits 0 leaves GOOP_TIMER = 6 whatever it held; otherwise a running timer counts down by one and an
inactive one stays 0 (R118, R120, R129, R130). The bytes are the replies to the operations DRAW_KIND names (R57). -/
def Obligations.ArmRestartsTheCountdown : Prop :=
  ∀ s t : State, s.active = true → s.inRange = true → exec .step s = .next t → t.eng = .idle →
    t.goopTimer =
      if (armByte s).toNat % 16 = 0 then 6 else if s.goopTimer = 0 then 0 else s.goopTimer - 1

/-- Step 5 (R120), both ways: in a completed frame a timer of 1, as step 5 meets it after the ARM draw, expires: the
timer is 0, GOOP_COUNTER goes down by exactly one (and never underflows, R37), and the frame makes the FIRE draw unless
the counter is 0, where it ends with MISS_GOOP. In every other frame GOOP_COUNTER stays, no FIRE draw is made, and
neither HIT nor MISS_GOOP ends the trial; a timer of 0 stays 0 and one above 1 goes down by one. -/
def Obligations.GoopCounterCountsExpiries : Prop :=
  ∀ s t : State, Safe s → s.active = true → exec .step s = .next t → t.eng = .idle →
    ∃ l : List RngReq, t.rngLog = s.rngLog ++ l ∧
      (timerAtStepFive s = 1 →
        t.goopTimer = 0 ∧ t.goopCounter.toNat + 1 = s.goopCounter.toNat ∧
        (.draw .fire (s.cfg.drawKind .fire) ∈ l ↔ t.goopCounter ≠ 0) ∧
        (t.reason = .missGoop ↔ t.goopCounter = 0)) ∧
      (timerAtStepFive s ≠ 1 →
        t.goopTimer = (if timerAtStepFive s = 0 then 0 else timerAtStepFive s - 1) ∧ t.goopCounter = s.goopCounter ∧
        .draw .fire (s.cfg.drawKind .fire) ∉ l ∧ t.reason ≠ .hit ∧ t.reason ≠ .missGoop)

/-- STEP hangs exactly if a request it issues is not answered in the state in which it is issued (R134 (b), R58), or
the frame fires a projectile whose own test never ends (R134 (a), R161). What it issues are the requests of R127 that
are due, in this order, up to that point: the unanswered request is the last one, and before an endless test the FIRE
draw is. No register changes and BUSY stays 1; and only Reset() ends the hang of a command, whatever the host and the
RNG port do meanwhile (R134, R229). How a hang stands in State, the collaborator's state in it included, is the model's
choice (notes/assumptions/9.md, 25.md), and so is that a foreign RNG request does not end it (19.md). -/
def Obligations.StepHangsOnlyForTheStatedReasons : Prop :=
  (∀ s t : State, s.active = true → exec .step s = .next t →
    ∃ l : List RngReq, t.rngLog = s.rngLog ++ l ∧ l <+: requestsDue s ∧
      (t.eng ≠ .idle ↔ allAnswered s.collaborator l s.sigma = false ∨ ShotNeverEnds s) ∧
      (t.eng ≠ .idle →
        t = { s with eng := .hung .step, sigma := t.sigma, rngLog := t.rngLog } ∧
        ((∃ l' q, l = l' ++ [q] ∧ allAnswered s.collaborator l' s.sigma = true ∧
            s.collaborator.answers q (sigmaAfterAll s.collaborator l' s.sigma) = false ∧
            t.sigma = sigmaAfterAll s.collaborator l' s.sigma) ∨
          (ShotNeverEnds s ∧ (∃ l', l = l' ++ [.draw .fire (s.cfg.drawKind .fire)]) ∧
            allAnswered s.collaborator l s.sigma = true ∧ t.sigma = sigmaAfterAll s.collaborator l s.sigma)))) ∧
  (∀ (s t : State) (c : Instr), s.eng = .hung c → step s = .next t →
    (∃ rest, s.events = .reset :: rest) ∨
    t = { s with events := t.events, err := t.err, rdata := t.rdata, sigma := t.sigma, freeCount := t.freeCount })

/-! ### RUN -/

/-- A RUN that completes is exactly the sequence of STEPs up to and including the first that terminates (R126). -/
def Obligations.CompletedRunIsTheSequenceOfSteps : Prop :=
  ∀ s t : State, s.active = true → exec .run s = .next t → t.eng = .idle →
    ∃ n, 0 < n ∧ stepsFrom n s = t ∧ t.term = true ∧ t.active = false ∧ ∀ k, k < n → (stepsFrom k s).active = true

/-- A RUN that does not complete in one engine move invents no outcome (R134, C5): after a number of STEPs that go on,
it either goes on in the next move or hangs exactly as a STEP from there hangs. The length of a move is the model's
choice (notes/assumptions/11.md), and so is the form of a hang (9.md, 25.md). -/
def Obligations.UncompletedRunInventsNoOutcome : Prop :=
  ∀ s t : State, s.active = true → exec .run s = .next t → t.eng ≠ .idle →
    (t.eng = .exec .run ∨ t.eng = .hung .run) ∧ t.active = true ∧ t.term = s.term ∧ t.reason = s.reason ∧
    ∃ n, (stepsFrom n s).active = true ∧ (∀ k, 1 ≤ k → k ≤ n → (stepsFrom k s).eng = .idle) ∧
      (t.eng = .exec .run → { stepsFrom n s with eng := .exec .run } = t) ∧
      (t.eng = .hung .run → exec .step (stepsFrom n s) = .next { t with eng := .hung .step })

/-- Under the constraints of D48, with a conforming collaborator and no zero velocity, RUN completes from every ACTIVE
state with a reason (R126, R132, C5). -/
def Obligations.RunCompletesUnderTheConstraints : Prop :=
  ∀ s : State, s.active = true → s.cfg.ok = true → Conforming s → s.cfg.Moving →
    ∃ t, exec .run s = .next t ∧ t.eng = .idle ∧ t.active = false ∧ t.term = true ∧ t.reason ≠ .none

/-- The termination bound: under the same constraints a trial terminates no later than frame D + 2 after its START,
and RUN is that sequence of STEPs (R132). -/
def Obligations.TrialTerminatesWithinTheExitDistance : Prop :=
  ∀ (s t : State) (side : Side) (phase : Byte) (seed : Half), s.cfg.ok = true → Conforming s → s.cfg.Moving →
    exec (.start side phase seed) s = .next t →
    ∃ n : Nat, (n : Int) ≤ s.cfg.exitDistance side + 2 ∧ (stepsFrom n t).term = true ∧
      (∀ k, k < n → (stepsFrom k t).active = true) ∧ exec .run t = .next (stepsFrom n t)

/-- A trial fires at most 15 projectiles, whatever the collaborator answers (R131). -/
def Obligations.TrialFiresAtMostFifteenProjectiles : Prop :=
  ∀ (s t : State) (side : Side) (phase : Byte) (seed : Half) (n : Nat),
    s.collaborator.answers (.seed seed) s.sigma = true →
    exec (.start side phase seed) s = .next t → (∀ k, k < n → (stepsFrom k t).active = true) →
    ∃ l : List RngReq, (stepsFrom n t).rngLog = t.rngLog ++ l ∧ l.count (.draw .fire (s.cfg.drawKind .fire)) ≤ 15

/-- Bit 7 of PHASE has no effect on any outcome: START with PHASE XOR 0x80 gives the same state but for GT[7], and STEP
and RUN from states that differ only in GT[7] issue the same requests and give states that differ only in GT[7]
(R128). -/
def Obligations.PhaseBitSevenHasNoEffect : Prop :=
  (∀ s : State, exec .step (flipGt s) = mapNext flipGt (exec .step s)) ∧
  (∀ s : State, exec .run (flipGt s) = mapNext flipGt (exec .run s)) ∧
  (∀ (s : State) (side : Side) (phase : Byte) (seed : Half), s.collaborator.answers (.seed seed) s.sigma = true →
    exec (.start side (phase ^^^ 0x80) seed) s = mapNext flipGt (exec (.start side phase seed) s))

/-- A trial's course is a function of SEED, PHASE, SIDE, TARGET, the parameters and the collaborator: two blocks that
agree on these, whatever else they hold, issue the same requests and end in the same trial state (R206). The
collaborator's answer to SEED is assumed, and seeding does not depend on its state before. -/
def Obligations.TrialIsAFunctionOfItsInputs : Prop :=
  ∀ (s₁ s₂ t₁ t₂ u₁ u₂ : State) (side : Side) (phase : Byte) (seed : Half),
    s₁.cfg = s₂.cfg → s₁.tx = s₂.tx → s₁.ty = s₂.ty →
    s₁.collaborator.answers (.seed seed) s₁.sigma = true → s₂.collaborator.answers (.seed seed) s₂.sigma = true →
    exec (.start side phase seed) s₁ = .next t₁ → exec (.start side phase seed) s₂ = .next t₂ →
    exec .run t₁ = .next u₁ → exec .run t₂ = .next u₂ →
    SameTrial u₁ u₂ ∧ u₁.eng = u₂.eng ∧ ∃ l, u₁.rngLog = s₁.rngLog ++ l ∧ u₂.rngLog = s₂.rngLog ++ l

/-- A STEP written to CMD before or after the completion of a running RUN: with an error already recorded both
interleavings end in the same state (U22, program P4 line 9). -/
def Obligations.WriteBeforeOrAfterCompletionEndsTheSame : Prop :=
  ∀ s t : State, s.err ≠ .none → s.active = true → exec .run s = .next t → t.eng = .idle →
    let r := { s with eng := .exec .run }
    let write := cmdWrite s.cfg.blockBase 0x40000000
    ∃ a b,
      step { r with events := [write, .engine] } = .next a ∧ step a = .next { t with events := [] } ∧
      step { r with events := [.engine, write] } = .next b ∧ step b = .next { t with events := [] }

/-! ### The projectile tester -/

/-- FIRE completes whenever its launch velocity is not zero: it records the source, the byte, the angle, the outcome
and the number of steps, at most 2^31 + 1, and changes nothing else (R159, R160, R158). -/
def Obligations.FireCompletesAndRecordsTheTest : Prop :=
  ∀ (s : State) (side : Side) (r : Byte), s.cfg.fieldOk = true →
    let a := flightAngle s.cfg side r
    ¬(trig s.cfg .cos s.cfg.projSpeed a = 0 ∧ trig s.cfg .sin s.cfg.projSpeed a = 0) →
    ∃ (hit : Bool) (n : Nat), 1 ≤ n ∧ n ≤ 0x80000001 ∧
      exec (.fire side r) s = .next
        { s with lfSrc := .command, lfValid := true, lfHit := hit, lfR := r, lfAngle := a,
                 fireSteps := BitVec.ofNat 32 n, eng := .idle }

/-- The recorded outcome is that of the first step that ends the test, the flight being written out from R151 to R156:
every earlier position is in the field and no hit; at the last one the projectile is in the field and hits, or is
outside and misses (R157). -/
def Obligations.FireOutcomeIsTheFirstEndOfTheFlight : Prop :=
  ∀ (s t : State) (side : Side) (r : Byte), exec (.fire side r) s = .next t → t.eng = .idle →
    EndsAt s.cfg s.x s.y side s.tx s.ty r t.lfHit t.fireSteps.toNat

/-- FIRE hangs, with BUSY = 1 and nothing else changed, exactly when the test never ends; under FIELD_BOUND's range that
is: velocity zero, spawn point in the field, spawn point no hit (R160, R161). That a hang is a next state is the
model's choice (notes/assumptions/9.md). -/
def Obligations.FireHangsExactlyWhenTheTestNeverEnds : Prop :=
  ∀ (s : State) (side : Side) (r : Byte),
    let a := flightAngle s.cfg side r
    (exec (.fire side r) s = .next { s with eng := .hung (.fire side r) } ↔
      NeverEnds s.cfg s.x s.y side s.tx s.ty r) ∧
    (s.cfg.fieldOk = true → (NeverEnds s.cfg s.x s.y side s.tx s.ty r ↔
      trig s.cfg .cos s.cfg.projSpeed a = 0 ∧ trig s.cfg .sin s.cfg.projSpeed a = 0 ∧
        inFieldAt s.cfg s.x s.y side r 0 = true ∧ hitAt s.cfg s.x s.y side s.tx s.ty r 0 = false))

/-- The launch velocity is zero exactly when both products of PROJ_SPEED with the table are (R161). -/
def Obligations.VelocityIsZeroExactlyWhenBothProductsAre : Prop :=
  ∀ (p : Params) (a : Byte),
    velocityX p a = 0 ∧ velocityY p a = 0 ↔
      p.projSpeed.toNat * (p.sinLut.get (a + 0x40).toFin).toNat = 0 ∧
        p.projSpeed.toNat * (p.sinLut.get a.toFin).toNat = 0

/-- No projectile test, of FIRE or of a frame, hits a target whose hitbox lies wholly outside the field, or any target
with a half-width of 0 (R162, C3). -/
def Obligations.TargetOutsideTheFieldIsNeverHit : Prop :=
  ∀ (s t : State) (i : Instr),
    ((s.cfg.fieldBound : Int) - 1 + s.cfg.hbX.toNat ≤ s.tx.toInt ∨ s.tx.toInt ≤ -(s.cfg.hbX.toNat : Int) ∨
      (s.cfg.fieldBound : Int) - 1 + s.cfg.hbY.toNat ≤ s.ty.toInt ∨ s.ty.toInt ≤ -(s.cfg.hbY.toNat : Int) ∨
      s.cfg.hbX = 0 ∨ s.cfg.hbY = 0) → s.cfg.fieldOk = true → exec i s = .next t →
    ((∃ side r, i = .fire side r) → t.eng = .idle → t.lfHit = false) ∧
    (i = .step ∨ i = .run → s.reason ≠ .hit → t.reason ≠ .hit)

end
end

