-- ==== Sys2Proof/Laws/State.lean ====
section
/-! SUPPORT. One lemma per field per named update of State, true by rfl, and one per field for the conditional updates,
so that no proof unfolds a record update. -/

namespace Sys2Proof.Machine

variable (s : State)

/-! ### complete -/

@[simp] theorem complete_x : s.complete.x = s.x := rfl
@[simp] theorem complete_y : s.complete.y = s.y := rfl
@[simp] theorem complete_angle : s.complete.angle = s.angle := rfl
@[simp] theorem complete_goopCounter : s.complete.goopCounter = s.goopCounter := rfl
@[simp] theorem complete_goopTimer : s.complete.goopTimer = s.goopTimer := rfl
@[simp] theorem complete_gt : s.complete.gt = s.gt := rfl
@[simp] theorem complete_side : s.complete.side = s.side := rfl
@[simp] theorem complete_inRange : s.complete.inRange = s.inRange := rfl
@[simp] theorem complete_tx : s.complete.tx = s.tx := rfl
@[simp] theorem complete_ty : s.complete.ty = s.ty := rfl
@[simp] theorem complete_active : s.complete.active = s.active := rfl
@[simp] theorem complete_term : s.complete.term = s.term := rfl
@[simp] theorem complete_reason : s.complete.reason = s.reason := rfl
@[simp] theorem complete_err : s.complete.err = s.err := rfl
@[simp] theorem complete_trigResult : s.complete.trigResult = s.trigResult := rfl
@[simp] theorem complete_lfAngle : s.complete.lfAngle = s.lfAngle := rfl
@[simp] theorem complete_lfR : s.complete.lfR = s.lfR := rfl
@[simp] theorem complete_lfHit : s.complete.lfHit = s.lfHit := rfl
@[simp] theorem complete_lfValid : s.complete.lfValid = s.lfValid := rfl
@[simp] theorem complete_lfSrc : s.complete.lfSrc = s.lfSrc := rfl
@[simp] theorem complete_fireSteps : s.complete.fireSteps = s.fireSteps := rfl
@[simp] theorem complete_eng : s.complete.eng = .idle := rfl
@[simp] theorem complete_sigma : s.complete.sigma = s.sigma := rfl
@[simp] theorem complete_cfg : s.complete.cfg = s.cfg := rfl
@[simp] theorem complete_rngLog : s.complete.rngLog = s.rngLog := rfl
@[simp] theorem complete_events : s.complete.events = s.events := rfl
@[simp] theorem complete_rdata : s.complete.rdata = s.rdata := rfl
@[simp] theorem complete_freeCount : s.complete.freeCount = s.freeCount := rfl

/-! ### hold -/

@[simp] theorem hold_x (c : Instr) : (s.hold c).x = s.x := rfl
@[simp] theorem hold_y (c : Instr) : (s.hold c).y = s.y := rfl
@[simp] theorem hold_angle (c : Instr) : (s.hold c).angle = s.angle := rfl
@[simp] theorem hold_goopCounter (c : Instr) : (s.hold c).goopCounter = s.goopCounter := rfl
@[simp] theorem hold_goopTimer (c : Instr) : (s.hold c).goopTimer = s.goopTimer := rfl
@[simp] theorem hold_gt (c : Instr) : (s.hold c).gt = s.gt := rfl
@[simp] theorem hold_side (c : Instr) : (s.hold c).side = s.side := rfl
@[simp] theorem hold_inRange (c : Instr) : (s.hold c).inRange = s.inRange := rfl
@[simp] theorem hold_tx (c : Instr) : (s.hold c).tx = s.tx := rfl
@[simp] theorem hold_ty (c : Instr) : (s.hold c).ty = s.ty := rfl
@[simp] theorem hold_active (c : Instr) : (s.hold c).active = s.active := rfl
@[simp] theorem hold_term (c : Instr) : (s.hold c).term = s.term := rfl
@[simp] theorem hold_reason (c : Instr) : (s.hold c).reason = s.reason := rfl
@[simp] theorem hold_err (c : Instr) : (s.hold c).err = s.err := rfl
@[simp] theorem hold_trigResult (c : Instr) : (s.hold c).trigResult = s.trigResult := rfl
@[simp] theorem hold_lfAngle (c : Instr) : (s.hold c).lfAngle = s.lfAngle := rfl
@[simp] theorem hold_lfR (c : Instr) : (s.hold c).lfR = s.lfR := rfl
@[simp] theorem hold_lfHit (c : Instr) : (s.hold c).lfHit = s.lfHit := rfl
@[simp] theorem hold_lfValid (c : Instr) : (s.hold c).lfValid = s.lfValid := rfl
@[simp] theorem hold_lfSrc (c : Instr) : (s.hold c).lfSrc = s.lfSrc := rfl
@[simp] theorem hold_fireSteps (c : Instr) : (s.hold c).fireSteps = s.fireSteps := rfl
@[simp] theorem hold_eng (c : Instr) : (s.hold c).eng = .exec c := rfl
@[simp] theorem hold_sigma (c : Instr) : (s.hold c).sigma = s.sigma := rfl
@[simp] theorem hold_cfg (c : Instr) : (s.hold c).cfg = s.cfg := rfl
@[simp] theorem hold_rngLog (c : Instr) : (s.hold c).rngLog = s.rngLog := rfl
@[simp] theorem hold_events (c : Instr) : (s.hold c).events = s.events := rfl
@[simp] theorem hold_rdata (c : Instr) : (s.hold c).rdata = s.rdata := rfl
@[simp] theorem hold_freeCount (c : Instr) : (s.hold c).freeCount = s.freeCount := rfl

/-! ### hang -/

@[simp] theorem hang_x (c : Instr) : (s.hang c).x = s.x := rfl
@[simp] theorem hang_y (c : Instr) : (s.hang c).y = s.y := rfl
@[simp] theorem hang_angle (c : Instr) : (s.hang c).angle = s.angle := rfl
@[simp] theorem hang_goopCounter (c : Instr) : (s.hang c).goopCounter = s.goopCounter := rfl
@[simp] theorem hang_goopTimer (c : Instr) : (s.hang c).goopTimer = s.goopTimer := rfl
@[simp] theorem hang_gt (c : Instr) : (s.hang c).gt = s.gt := rfl
@[simp] theorem hang_side (c : Instr) : (s.hang c).side = s.side := rfl
@[simp] theorem hang_inRange (c : Instr) : (s.hang c).inRange = s.inRange := rfl
@[simp] theorem hang_tx (c : Instr) : (s.hang c).tx = s.tx := rfl
@[simp] theorem hang_ty (c : Instr) : (s.hang c).ty = s.ty := rfl
@[simp] theorem hang_active (c : Instr) : (s.hang c).active = s.active := rfl
@[simp] theorem hang_term (c : Instr) : (s.hang c).term = s.term := rfl
@[simp] theorem hang_reason (c : Instr) : (s.hang c).reason = s.reason := rfl
@[simp] theorem hang_err (c : Instr) : (s.hang c).err = s.err := rfl
@[simp] theorem hang_trigResult (c : Instr) : (s.hang c).trigResult = s.trigResult := rfl
@[simp] theorem hang_lfAngle (c : Instr) : (s.hang c).lfAngle = s.lfAngle := rfl
@[simp] theorem hang_lfR (c : Instr) : (s.hang c).lfR = s.lfR := rfl
@[simp] theorem hang_lfHit (c : Instr) : (s.hang c).lfHit = s.lfHit := rfl
@[simp] theorem hang_lfValid (c : Instr) : (s.hang c).lfValid = s.lfValid := rfl
@[simp] theorem hang_lfSrc (c : Instr) : (s.hang c).lfSrc = s.lfSrc := rfl
@[simp] theorem hang_fireSteps (c : Instr) : (s.hang c).fireSteps = s.fireSteps := rfl
@[simp] theorem hang_eng (c : Instr) : (s.hang c).eng = .hung c := rfl
@[simp] theorem hang_sigma (c : Instr) : (s.hang c).sigma = s.sigma := rfl
@[simp] theorem hang_cfg (c : Instr) : (s.hang c).cfg = s.cfg := rfl
@[simp] theorem hang_rngLog (c : Instr) : (s.hang c).rngLog = s.rngLog := rfl
@[simp] theorem hang_events (c : Instr) : (s.hang c).events = s.events := rfl
@[simp] theorem hang_rdata (c : Instr) : (s.hang c).rdata = s.rdata := rfl
@[simp] theorem hang_freeCount (c : Instr) : (s.hang c).freeCount = s.freeCount := rfl

/-! ### withRequestsOf -/

@[simp] theorem withRequestsOf_x (t : State) : (s.withRequestsOf t).x = s.x := rfl
@[simp] theorem withRequestsOf_y (t : State) : (s.withRequestsOf t).y = s.y := rfl
@[simp] theorem withRequestsOf_angle (t : State) : (s.withRequestsOf t).angle = s.angle := rfl
@[simp] theorem withRequestsOf_goopCounter (t : State) : (s.withRequestsOf t).goopCounter = s.goopCounter := rfl
@[simp] theorem withRequestsOf_goopTimer (t : State) : (s.withRequestsOf t).goopTimer = s.goopTimer := rfl
@[simp] theorem withRequestsOf_gt (t : State) : (s.withRequestsOf t).gt = s.gt := rfl
@[simp] theorem withRequestsOf_side (t : State) : (s.withRequestsOf t).side = s.side := rfl
@[simp] theorem withRequestsOf_inRange (t : State) : (s.withRequestsOf t).inRange = s.inRange := rfl
@[simp] theorem withRequestsOf_tx (t : State) : (s.withRequestsOf t).tx = s.tx := rfl
@[simp] theorem withRequestsOf_ty (t : State) : (s.withRequestsOf t).ty = s.ty := rfl
@[simp] theorem withRequestsOf_active (t : State) : (s.withRequestsOf t).active = s.active := rfl
@[simp] theorem withRequestsOf_term (t : State) : (s.withRequestsOf t).term = s.term := rfl
@[simp] theorem withRequestsOf_reason (t : State) : (s.withRequestsOf t).reason = s.reason := rfl
@[simp] theorem withRequestsOf_err (t : State) : (s.withRequestsOf t).err = s.err := rfl
@[simp] theorem withRequestsOf_trigResult (t : State) : (s.withRequestsOf t).trigResult = s.trigResult := rfl
@[simp] theorem withRequestsOf_lfAngle (t : State) : (s.withRequestsOf t).lfAngle = s.lfAngle := rfl
@[simp] theorem withRequestsOf_lfR (t : State) : (s.withRequestsOf t).lfR = s.lfR := rfl
@[simp] theorem withRequestsOf_lfHit (t : State) : (s.withRequestsOf t).lfHit = s.lfHit := rfl
@[simp] theorem withRequestsOf_lfValid (t : State) : (s.withRequestsOf t).lfValid = s.lfValid := rfl
@[simp] theorem withRequestsOf_lfSrc (t : State) : (s.withRequestsOf t).lfSrc = s.lfSrc := rfl
@[simp] theorem withRequestsOf_fireSteps (t : State) : (s.withRequestsOf t).fireSteps = s.fireSteps := rfl
@[simp] theorem withRequestsOf_eng (t : State) : (s.withRequestsOf t).eng = s.eng := rfl
@[simp] theorem withRequestsOf_sigma (t : State) : (s.withRequestsOf t).sigma = t.sigma := rfl
@[simp] theorem withRequestsOf_cfg (t : State) : (s.withRequestsOf t).cfg = s.cfg := rfl
@[simp] theorem withRequestsOf_rngLog (t : State) : (s.withRequestsOf t).rngLog = t.rngLog := rfl
@[simp] theorem withRequestsOf_events (t : State) : (s.withRequestsOf t).events = s.events := rfl
@[simp] theorem withRequestsOf_rdata (t : State) : (s.withRequestsOf t).rdata = s.rdata := rfl
@[simp] theorem withRequestsOf_freeCount (t : State) : (s.withRequestsOf t).freeCount = s.freeCount := rfl

/-! ### terminate -/

@[simp] theorem terminate_x (r : Reason) : (s.terminate r).x = s.x := rfl
@[simp] theorem terminate_y (r : Reason) : (s.terminate r).y = s.y := rfl
@[simp] theorem terminate_angle (r : Reason) : (s.terminate r).angle = s.angle := rfl
@[simp] theorem terminate_goopCounter (r : Reason) : (s.terminate r).goopCounter = s.goopCounter := rfl
@[simp] theorem terminate_goopTimer (r : Reason) : (s.terminate r).goopTimer = s.goopTimer := rfl
@[simp] theorem terminate_gt (r : Reason) : (s.terminate r).gt = s.gt := rfl
@[simp] theorem terminate_side (r : Reason) : (s.terminate r).side = s.side := rfl
@[simp] theorem terminate_inRange (r : Reason) : (s.terminate r).inRange = s.inRange := rfl
@[simp] theorem terminate_tx (r : Reason) : (s.terminate r).tx = s.tx := rfl
@[simp] theorem terminate_ty (r : Reason) : (s.terminate r).ty = s.ty := rfl
@[simp] theorem terminate_active (r : Reason) : (s.terminate r).active = false := rfl
@[simp] theorem terminate_term (r : Reason) : (s.terminate r).term = true := rfl
@[simp] theorem terminate_reason (r : Reason) : (s.terminate r).reason = r := rfl
@[simp] theorem terminate_err (r : Reason) : (s.terminate r).err = s.err := rfl
@[simp] theorem terminate_trigResult (r : Reason) : (s.terminate r).trigResult = s.trigResult := rfl
@[simp] theorem terminate_lfAngle (r : Reason) : (s.terminate r).lfAngle = s.lfAngle := rfl
@[simp] theorem terminate_lfR (r : Reason) : (s.terminate r).lfR = s.lfR := rfl
@[simp] theorem terminate_lfHit (r : Reason) : (s.terminate r).lfHit = s.lfHit := rfl
@[simp] theorem terminate_lfValid (r : Reason) : (s.terminate r).lfValid = s.lfValid := rfl
@[simp] theorem terminate_lfSrc (r : Reason) : (s.terminate r).lfSrc = s.lfSrc := rfl
@[simp] theorem terminate_fireSteps (r : Reason) : (s.terminate r).fireSteps = s.fireSteps := rfl
@[simp] theorem terminate_eng (r : Reason) : (s.terminate r).eng = s.eng := rfl
@[simp] theorem terminate_sigma (r : Reason) : (s.terminate r).sigma = s.sigma := rfl
@[simp] theorem terminate_cfg (r : Reason) : (s.terminate r).cfg = s.cfg := rfl
@[simp] theorem terminate_rngLog (r : Reason) : (s.terminate r).rngLog = s.rngLog := rfl
@[simp] theorem terminate_events (r : Reason) : (s.terminate r).events = s.events := rfl
@[simp] theorem terminate_rdata (r : Reason) : (s.terminate r).rdata = s.rdata := rfl
@[simp] theorem terminate_freeCount (r : Reason) : (s.terminate r).freeCount = s.freeCount := rfl

/-! ### issued -/

@[simp] theorem issued_x (q : RngReq) (n : Nat) : (s.issued q n).x = s.x := rfl
@[simp] theorem issued_y (q : RngReq) (n : Nat) : (s.issued q n).y = s.y := rfl
@[simp] theorem issued_angle (q : RngReq) (n : Nat) : (s.issued q n).angle = s.angle := rfl
@[simp] theorem issued_goopCounter (q : RngReq) (n : Nat) : (s.issued q n).goopCounter = s.goopCounter := rfl
@[simp] theorem issued_goopTimer (q : RngReq) (n : Nat) : (s.issued q n).goopTimer = s.goopTimer := rfl
@[simp] theorem issued_gt (q : RngReq) (n : Nat) : (s.issued q n).gt = s.gt := rfl
@[simp] theorem issued_side (q : RngReq) (n : Nat) : (s.issued q n).side = s.side := rfl
@[simp] theorem issued_inRange (q : RngReq) (n : Nat) : (s.issued q n).inRange = s.inRange := rfl
@[simp] theorem issued_tx (q : RngReq) (n : Nat) : (s.issued q n).tx = s.tx := rfl
@[simp] theorem issued_ty (q : RngReq) (n : Nat) : (s.issued q n).ty = s.ty := rfl
@[simp] theorem issued_active (q : RngReq) (n : Nat) : (s.issued q n).active = s.active := rfl
@[simp] theorem issued_term (q : RngReq) (n : Nat) : (s.issued q n).term = s.term := rfl
@[simp] theorem issued_reason (q : RngReq) (n : Nat) : (s.issued q n).reason = s.reason := rfl
@[simp] theorem issued_err (q : RngReq) (n : Nat) : (s.issued q n).err = s.err := rfl
@[simp] theorem issued_trigResult (q : RngReq) (n : Nat) : (s.issued q n).trigResult = s.trigResult := rfl
@[simp] theorem issued_lfAngle (q : RngReq) (n : Nat) : (s.issued q n).lfAngle = s.lfAngle := rfl
@[simp] theorem issued_lfR (q : RngReq) (n : Nat) : (s.issued q n).lfR = s.lfR := rfl
@[simp] theorem issued_lfHit (q : RngReq) (n : Nat) : (s.issued q n).lfHit = s.lfHit := rfl
@[simp] theorem issued_lfValid (q : RngReq) (n : Nat) : (s.issued q n).lfValid = s.lfValid := rfl
@[simp] theorem issued_lfSrc (q : RngReq) (n : Nat) : (s.issued q n).lfSrc = s.lfSrc := rfl
@[simp] theorem issued_fireSteps (q : RngReq) (n : Nat) : (s.issued q n).fireSteps = s.fireSteps := rfl
@[simp] theorem issued_eng (q : RngReq) (n : Nat) : (s.issued q n).eng = s.eng := rfl
@[simp] theorem issued_sigma (q : RngReq) (n : Nat) : (s.issued q n).sigma = n := rfl
@[simp] theorem issued_cfg (q : RngReq) (n : Nat) : (s.issued q n).cfg = s.cfg := rfl
@[simp] theorem issued_rngLog (q : RngReq) (n : Nat) : (s.issued q n).rngLog = s.rngLog ++ [q] := rfl
@[simp] theorem issued_events (q : RngReq) (n : Nat) : (s.issued q n).events = s.events := rfl
@[simp] theorem issued_rdata (q : RngReq) (n : Nat) : (s.issued q n).rdata = s.rdata := rfl
@[simp] theorem issued_freeCount (q : RngReq) (n : Nat) : (s.issued q n).freeCount = s.freeCount := rfl

/-! ### withEvents -/

@[simp] theorem withEvents_x (es : List Event) : (s.withEvents es).x = s.x := rfl
@[simp] theorem withEvents_y (es : List Event) : (s.withEvents es).y = s.y := rfl
@[simp] theorem withEvents_angle (es : List Event) : (s.withEvents es).angle = s.angle := rfl
@[simp] theorem withEvents_goopCounter (es : List Event) : (s.withEvents es).goopCounter = s.goopCounter := rfl
@[simp] theorem withEvents_goopTimer (es : List Event) : (s.withEvents es).goopTimer = s.goopTimer := rfl
@[simp] theorem withEvents_gt (es : List Event) : (s.withEvents es).gt = s.gt := rfl
@[simp] theorem withEvents_side (es : List Event) : (s.withEvents es).side = s.side := rfl
@[simp] theorem withEvents_inRange (es : List Event) : (s.withEvents es).inRange = s.inRange := rfl
@[simp] theorem withEvents_tx (es : List Event) : (s.withEvents es).tx = s.tx := rfl
@[simp] theorem withEvents_ty (es : List Event) : (s.withEvents es).ty = s.ty := rfl
@[simp] theorem withEvents_active (es : List Event) : (s.withEvents es).active = s.active := rfl
@[simp] theorem withEvents_term (es : List Event) : (s.withEvents es).term = s.term := rfl
@[simp] theorem withEvents_reason (es : List Event) : (s.withEvents es).reason = s.reason := rfl
@[simp] theorem withEvents_err (es : List Event) : (s.withEvents es).err = s.err := rfl
@[simp] theorem withEvents_trigResult (es : List Event) : (s.withEvents es).trigResult = s.trigResult := rfl
@[simp] theorem withEvents_lfAngle (es : List Event) : (s.withEvents es).lfAngle = s.lfAngle := rfl
@[simp] theorem withEvents_lfR (es : List Event) : (s.withEvents es).lfR = s.lfR := rfl
@[simp] theorem withEvents_lfHit (es : List Event) : (s.withEvents es).lfHit = s.lfHit := rfl
@[simp] theorem withEvents_lfValid (es : List Event) : (s.withEvents es).lfValid = s.lfValid := rfl
@[simp] theorem withEvents_lfSrc (es : List Event) : (s.withEvents es).lfSrc = s.lfSrc := rfl
@[simp] theorem withEvents_fireSteps (es : List Event) : (s.withEvents es).fireSteps = s.fireSteps := rfl
@[simp] theorem withEvents_eng (es : List Event) : (s.withEvents es).eng = s.eng := rfl
@[simp] theorem withEvents_sigma (es : List Event) : (s.withEvents es).sigma = s.sigma := rfl
@[simp] theorem withEvents_cfg (es : List Event) : (s.withEvents es).cfg = s.cfg := rfl
@[simp] theorem withEvents_rngLog (es : List Event) : (s.withEvents es).rngLog = s.rngLog := rfl
@[simp] theorem withEvents_events (es : List Event) : (s.withEvents es).events = es := rfl
@[simp] theorem withEvents_rdata (es : List Event) : (s.withEvents es).rdata = s.rdata := rfl
@[simp] theorem withEvents_freeCount (es : List Event) : (s.withEvents es).freeCount = s.freeCount := rfl

/-! ### setTrig -/

@[simp] theorem setTrig_x (w : Word) : (s.setTrig w).x = s.x := rfl
@[simp] theorem setTrig_y (w : Word) : (s.setTrig w).y = s.y := rfl
@[simp] theorem setTrig_angle (w : Word) : (s.setTrig w).angle = s.angle := rfl
@[simp] theorem setTrig_goopCounter (w : Word) : (s.setTrig w).goopCounter = s.goopCounter := rfl
@[simp] theorem setTrig_goopTimer (w : Word) : (s.setTrig w).goopTimer = s.goopTimer := rfl
@[simp] theorem setTrig_gt (w : Word) : (s.setTrig w).gt = s.gt := rfl
@[simp] theorem setTrig_side (w : Word) : (s.setTrig w).side = s.side := rfl
@[simp] theorem setTrig_inRange (w : Word) : (s.setTrig w).inRange = s.inRange := rfl
@[simp] theorem setTrig_tx (w : Word) : (s.setTrig w).tx = s.tx := rfl
@[simp] theorem setTrig_ty (w : Word) : (s.setTrig w).ty = s.ty := rfl
@[simp] theorem setTrig_active (w : Word) : (s.setTrig w).active = s.active := rfl
@[simp] theorem setTrig_term (w : Word) : (s.setTrig w).term = s.term := rfl
@[simp] theorem setTrig_reason (w : Word) : (s.setTrig w).reason = s.reason := rfl
@[simp] theorem setTrig_err (w : Word) : (s.setTrig w).err = s.err := rfl
@[simp] theorem setTrig_trigResult (w : Word) : (s.setTrig w).trigResult = w := rfl
@[simp] theorem setTrig_lfAngle (w : Word) : (s.setTrig w).lfAngle = s.lfAngle := rfl
@[simp] theorem setTrig_lfR (w : Word) : (s.setTrig w).lfR = s.lfR := rfl
@[simp] theorem setTrig_lfHit (w : Word) : (s.setTrig w).lfHit = s.lfHit := rfl
@[simp] theorem setTrig_lfValid (w : Word) : (s.setTrig w).lfValid = s.lfValid := rfl
@[simp] theorem setTrig_lfSrc (w : Word) : (s.setTrig w).lfSrc = s.lfSrc := rfl
@[simp] theorem setTrig_fireSteps (w : Word) : (s.setTrig w).fireSteps = s.fireSteps := rfl
@[simp] theorem setTrig_eng (w : Word) : (s.setTrig w).eng = s.eng := rfl
@[simp] theorem setTrig_sigma (w : Word) : (s.setTrig w).sigma = s.sigma := rfl
@[simp] theorem setTrig_cfg (w : Word) : (s.setTrig w).cfg = s.cfg := rfl
@[simp] theorem setTrig_rngLog (w : Word) : (s.setTrig w).rngLog = s.rngLog := rfl
@[simp] theorem setTrig_events (w : Word) : (s.setTrig w).events = s.events := rfl
@[simp] theorem setTrig_rdata (w : Word) : (s.setTrig w).rdata = s.rdata := rfl
@[simp] theorem setTrig_freeCount (w : Word) : (s.setTrig w).freeCount = s.freeCount := rfl

/-! ### recordFire -/

@[simp] theorem recordFire_x (f : FireSrc) (h : Bool) (r a : Byte) (n : Nat) : (s.recordFire f h r a n).x = s.x := rfl
@[simp] theorem recordFire_y (f : FireSrc) (h : Bool) (r a : Byte) (n : Nat) : (s.recordFire f h r a n).y = s.y := rfl
@[simp] theorem recordFire_angle (f : FireSrc) (h : Bool) (r a : Byte) (n : Nat) : (s.recordFire f h r a n).angle = s.angle := rfl
@[simp] theorem recordFire_goopCounter (f : FireSrc) (h : Bool) (r a : Byte) (n : Nat) : (s.recordFire f h r a n).goopCounter = s.goopCounter := rfl
@[simp] theorem recordFire_goopTimer (f : FireSrc) (h : Bool) (r a : Byte) (n : Nat) : (s.recordFire f h r a n).goopTimer = s.goopTimer := rfl
@[simp] theorem recordFire_gt (f : FireSrc) (h : Bool) (r a : Byte) (n : Nat) : (s.recordFire f h r a n).gt = s.gt := rfl
@[simp] theorem recordFire_side (f : FireSrc) (h : Bool) (r a : Byte) (n : Nat) : (s.recordFire f h r a n).side = s.side := rfl
@[simp] theorem recordFire_inRange (f : FireSrc) (h : Bool) (r a : Byte) (n : Nat) : (s.recordFire f h r a n).inRange = s.inRange := rfl
@[simp] theorem recordFire_tx (f : FireSrc) (h : Bool) (r a : Byte) (n : Nat) : (s.recordFire f h r a n).tx = s.tx := rfl
@[simp] theorem recordFire_ty (f : FireSrc) (h : Bool) (r a : Byte) (n : Nat) : (s.recordFire f h r a n).ty = s.ty := rfl
@[simp] theorem recordFire_active (f : FireSrc) (h : Bool) (r a : Byte) (n : Nat) : (s.recordFire f h r a n).active = s.active := rfl
@[simp] theorem recordFire_term (f : FireSrc) (h : Bool) (r a : Byte) (n : Nat) : (s.recordFire f h r a n).term = s.term := rfl
@[simp] theorem recordFire_reason (f : FireSrc) (h : Bool) (r a : Byte) (n : Nat) : (s.recordFire f h r a n).reason = s.reason := rfl
@[simp] theorem recordFire_err (f : FireSrc) (h : Bool) (r a : Byte) (n : Nat) : (s.recordFire f h r a n).err = s.err := rfl
@[simp] theorem recordFire_trigResult (f : FireSrc) (h : Bool) (r a : Byte) (n : Nat) : (s.recordFire f h r a n).trigResult = s.trigResult := rfl
@[simp] theorem recordFire_lfAngle (f : FireSrc) (h : Bool) (r a : Byte) (n : Nat) : (s.recordFire f h r a n).lfAngle = a := rfl
@[simp] theorem recordFire_lfR (f : FireSrc) (h : Bool) (r a : Byte) (n : Nat) : (s.recordFire f h r a n).lfR = r := rfl
@[simp] theorem recordFire_lfHit (f : FireSrc) (h : Bool) (r a : Byte) (n : Nat) : (s.recordFire f h r a n).lfHit = h := rfl
@[simp] theorem recordFire_lfValid (f : FireSrc) (h : Bool) (r a : Byte) (n : Nat) : (s.recordFire f h r a n).lfValid = true := rfl
@[simp] theorem recordFire_lfSrc (f : FireSrc) (h : Bool) (r a : Byte) (n : Nat) : (s.recordFire f h r a n).lfSrc = f := rfl
@[simp] theorem recordFire_fireSteps (f : FireSrc) (h : Bool) (r a : Byte) (n : Nat) : (s.recordFire f h r a n).fireSteps = BitVec.ofNat 32 n := rfl
@[simp] theorem recordFire_eng (f : FireSrc) (h : Bool) (r a : Byte) (n : Nat) : (s.recordFire f h r a n).eng = s.eng := rfl
@[simp] theorem recordFire_sigma (f : FireSrc) (h : Bool) (r a : Byte) (n : Nat) : (s.recordFire f h r a n).sigma = s.sigma := rfl
@[simp] theorem recordFire_cfg (f : FireSrc) (h : Bool) (r a : Byte) (n : Nat) : (s.recordFire f h r a n).cfg = s.cfg := rfl
@[simp] theorem recordFire_rngLog (f : FireSrc) (h : Bool) (r a : Byte) (n : Nat) : (s.recordFire f h r a n).rngLog = s.rngLog := rfl
@[simp] theorem recordFire_events (f : FireSrc) (h : Bool) (r a : Byte) (n : Nat) : (s.recordFire f h r a n).events = s.events := rfl
@[simp] theorem recordFire_rdata (f : FireSrc) (h : Bool) (r a : Byte) (n : Nat) : (s.recordFire f h r a n).rdata = s.rdata := rfl
@[simp] theorem recordFire_freeCount (f : FireSrc) (h : Bool) (r a : Byte) (n : Nat) : (s.recordFire f h r a n).freeCount = s.freeCount := rfl

/-! ### move -/

@[simp] theorem move_x : s.move.x = s.x + dirAddend (s.cfg.dir.get s.side) := rfl
@[simp] theorem move_y : s.move.y = s.y := rfl
@[simp] theorem move_angle : s.move.angle = s.angle + 1 := rfl
@[simp] theorem move_goopCounter : s.move.goopCounter = s.goopCounter := rfl
@[simp] theorem move_goopTimer : s.move.goopTimer = s.goopTimer := rfl
@[simp] theorem move_gt : s.move.gt = s.gt := rfl
@[simp] theorem move_side : s.move.side = s.side := rfl
@[simp] theorem move_inRange : s.move.inRange = s.inRange := rfl
@[simp] theorem move_tx : s.move.tx = s.tx := rfl
@[simp] theorem move_ty : s.move.ty = s.ty := rfl
@[simp] theorem move_active : s.move.active = s.active := rfl
@[simp] theorem move_term : s.move.term = s.term := rfl
@[simp] theorem move_reason : s.move.reason = s.reason := rfl
@[simp] theorem move_err : s.move.err = s.err := rfl
@[simp] theorem move_trigResult : s.move.trigResult = s.trigResult := rfl
@[simp] theorem move_lfAngle : s.move.lfAngle = s.lfAngle := rfl
@[simp] theorem move_lfR : s.move.lfR = s.lfR := rfl
@[simp] theorem move_lfHit : s.move.lfHit = s.lfHit := rfl
@[simp] theorem move_lfValid : s.move.lfValid = s.lfValid := rfl
@[simp] theorem move_lfSrc : s.move.lfSrc = s.lfSrc := rfl
@[simp] theorem move_fireSteps : s.move.fireSteps = s.fireSteps := rfl
@[simp] theorem move_eng : s.move.eng = s.eng := rfl
@[simp] theorem move_sigma : s.move.sigma = s.sigma := rfl
@[simp] theorem move_cfg : s.move.cfg = s.cfg := rfl
@[simp] theorem move_rngLog : s.move.rngLog = s.rngLog := rfl
@[simp] theorem move_events : s.move.events = s.events := rfl
@[simp] theorem move_rdata : s.move.rdata = s.rdata := rfl
@[simp] theorem move_freeCount : s.move.freeCount = s.freeCount := rfl

/-! ### oscillate -/

@[simp] theorem oscillate_x : (oscillate s).x = s.x := rfl
@[simp] theorem oscillate_y : (oscillate s).y = s.cfg.yBase + intPart (trig s.cfg .cos s.cfg.oscAmp s.angle) := rfl
@[simp] theorem oscillate_angle : (oscillate s).angle = s.angle := rfl
@[simp] theorem oscillate_goopCounter : (oscillate s).goopCounter = s.goopCounter := rfl
@[simp] theorem oscillate_goopTimer : (oscillate s).goopTimer = s.goopTimer := rfl
@[simp] theorem oscillate_gt : (oscillate s).gt = s.gt := rfl
@[simp] theorem oscillate_side : (oscillate s).side = s.side := rfl
@[simp] theorem oscillate_inRange : (oscillate s).inRange = s.inRange := rfl
@[simp] theorem oscillate_tx : (oscillate s).tx = s.tx := rfl
@[simp] theorem oscillate_ty : (oscillate s).ty = s.ty := rfl
@[simp] theorem oscillate_active : (oscillate s).active = s.active := rfl
@[simp] theorem oscillate_term : (oscillate s).term = s.term := rfl
@[simp] theorem oscillate_reason : (oscillate s).reason = s.reason := rfl
@[simp] theorem oscillate_err : (oscillate s).err = s.err := rfl
@[simp] theorem oscillate_trigResult : (oscillate s).trigResult = s.trigResult := rfl
@[simp] theorem oscillate_lfAngle : (oscillate s).lfAngle = s.lfAngle := rfl
@[simp] theorem oscillate_lfR : (oscillate s).lfR = s.lfR := rfl
@[simp] theorem oscillate_lfHit : (oscillate s).lfHit = s.lfHit := rfl
@[simp] theorem oscillate_lfValid : (oscillate s).lfValid = s.lfValid := rfl
@[simp] theorem oscillate_lfSrc : (oscillate s).lfSrc = s.lfSrc := rfl
@[simp] theorem oscillate_fireSteps : (oscillate s).fireSteps = s.fireSteps := rfl
@[simp] theorem oscillate_eng : (oscillate s).eng = s.eng := rfl
@[simp] theorem oscillate_sigma : (oscillate s).sigma = s.sigma := rfl
@[simp] theorem oscillate_cfg : (oscillate s).cfg = s.cfg := rfl
@[simp] theorem oscillate_rngLog : (oscillate s).rngLog = s.rngLog := rfl
@[simp] theorem oscillate_events : (oscillate s).events = s.events := rfl
@[simp] theorem oscillate_rdata : (oscillate s).rdata = s.rdata := rfl
@[simp] theorem oscillate_freeCount : (oscillate s).freeCount = s.freeCount := rfl

/-! ### tick -/

@[simp] theorem tick_x : (tick s).x = s.x := rfl
@[simp] theorem tick_y : (tick s).y = s.y := rfl
@[simp] theorem tick_angle : (tick s).angle = s.angle := rfl
@[simp] theorem tick_goopCounter : (tick s).goopCounter = s.goopCounter := rfl
@[simp] theorem tick_goopTimer : (tick s).goopTimer = s.goopTimer := rfl
@[simp] theorem tick_gt : (tick s).gt = s.gt + 1 := rfl
@[simp] theorem tick_side : (tick s).side = s.side := rfl
@[simp] theorem tick_inRange : (tick s).inRange = s.inRange := rfl
@[simp] theorem tick_tx : (tick s).tx = s.tx := rfl
@[simp] theorem tick_ty : (tick s).ty = s.ty := rfl
@[simp] theorem tick_active : (tick s).active = s.active := rfl
@[simp] theorem tick_term : (tick s).term = s.term := rfl
@[simp] theorem tick_reason : (tick s).reason = s.reason := rfl
@[simp] theorem tick_err : (tick s).err = s.err := rfl
@[simp] theorem tick_trigResult : (tick s).trigResult = s.trigResult := rfl
@[simp] theorem tick_lfAngle : (tick s).lfAngle = s.lfAngle := rfl
@[simp] theorem tick_lfR : (tick s).lfR = s.lfR := rfl
@[simp] theorem tick_lfHit : (tick s).lfHit = s.lfHit := rfl
@[simp] theorem tick_lfValid : (tick s).lfValid = s.lfValid := rfl
@[simp] theorem tick_lfSrc : (tick s).lfSrc = s.lfSrc := rfl
@[simp] theorem tick_fireSteps : (tick s).fireSteps = s.fireSteps := rfl
@[simp] theorem tick_eng : (tick s).eng = s.eng := rfl
@[simp] theorem tick_sigma : (tick s).sigma = s.sigma := rfl
@[simp] theorem tick_cfg : (tick s).cfg = s.cfg := rfl
@[simp] theorem tick_rngLog : (tick s).rngLog = s.rngLog := rfl
@[simp] theorem tick_events : (tick s).events = s.events := rfl
@[simp] theorem tick_rdata : (tick s).rdata = s.rdata := rfl
@[simp] theorem tick_freeCount : (tick s).freeCount = s.freeCount := rfl

/-! ### clearError -/

@[simp] theorem clearError_x : (clearError s).x = s.x := rfl
@[simp] theorem clearError_y : (clearError s).y = s.y := rfl
@[simp] theorem clearError_angle : (clearError s).angle = s.angle := rfl
@[simp] theorem clearError_goopCounter : (clearError s).goopCounter = s.goopCounter := rfl
@[simp] theorem clearError_goopTimer : (clearError s).goopTimer = s.goopTimer := rfl
@[simp] theorem clearError_gt : (clearError s).gt = s.gt := rfl
@[simp] theorem clearError_side : (clearError s).side = s.side := rfl
@[simp] theorem clearError_inRange : (clearError s).inRange = s.inRange := rfl
@[simp] theorem clearError_tx : (clearError s).tx = s.tx := rfl
@[simp] theorem clearError_ty : (clearError s).ty = s.ty := rfl
@[simp] theorem clearError_active : (clearError s).active = s.active := rfl
@[simp] theorem clearError_term : (clearError s).term = s.term := rfl
@[simp] theorem clearError_reason : (clearError s).reason = s.reason := rfl
@[simp] theorem clearError_err : (clearError s).err = .none := rfl
@[simp] theorem clearError_trigResult : (clearError s).trigResult = s.trigResult := rfl
@[simp] theorem clearError_lfAngle : (clearError s).lfAngle = s.lfAngle := rfl
@[simp] theorem clearError_lfR : (clearError s).lfR = s.lfR := rfl
@[simp] theorem clearError_lfHit : (clearError s).lfHit = s.lfHit := rfl
@[simp] theorem clearError_lfValid : (clearError s).lfValid = s.lfValid := rfl
@[simp] theorem clearError_lfSrc : (clearError s).lfSrc = s.lfSrc := rfl
@[simp] theorem clearError_fireSteps : (clearError s).fireSteps = s.fireSteps := rfl
@[simp] theorem clearError_eng : (clearError s).eng = s.eng := rfl
@[simp] theorem clearError_sigma : (clearError s).sigma = s.sigma := rfl
@[simp] theorem clearError_cfg : (clearError s).cfg = s.cfg := rfl
@[simp] theorem clearError_rngLog : (clearError s).rngLog = s.rngLog := rfl
@[simp] theorem clearError_events : (clearError s).events = s.events := rfl
@[simp] theorem clearError_rdata : (clearError s).rdata = s.rdata := rfl
@[simp] theorem clearError_freeCount : (clearError s).freeCount = s.freeCount := rfl

/-! ### startTrial -/

@[simp] theorem startTrial_x (d : Side) (p : Byte) : (startTrial d p s).x = s.cfg.spawnX.get d := rfl
@[simp] theorem startTrial_y (d : Side) (p : Byte) : (startTrial d p s).y = 0 := rfl
@[simp] theorem startTrial_angle (d : Side) (p : Byte) : (startTrial d p s).angle = s.cfg.angleInit := rfl
@[simp] theorem startTrial_goopCounter (d : Side) (p : Byte) : (startTrial d p s).goopCounter = goopInit := rfl
@[simp] theorem startTrial_goopTimer (d : Side) (p : Byte) : (startTrial d p s).goopTimer = 0 := rfl
@[simp] theorem startTrial_gt (d : Side) (p : Byte) : (startTrial d p s).gt = p := rfl
@[simp] theorem startTrial_side (d : Side) (p : Byte) : (startTrial d p s).side = d := rfl
@[simp] theorem startTrial_inRange (d : Side) (p : Byte) : (startTrial d p s).inRange = false := rfl
@[simp] theorem startTrial_tx (d : Side) (p : Byte) : (startTrial d p s).tx = s.tx := rfl
@[simp] theorem startTrial_ty (d : Side) (p : Byte) : (startTrial d p s).ty = s.ty := rfl
@[simp] theorem startTrial_active (d : Side) (p : Byte) : (startTrial d p s).active = true := rfl
@[simp] theorem startTrial_term (d : Side) (p : Byte) : (startTrial d p s).term = false := rfl
@[simp] theorem startTrial_reason (d : Side) (p : Byte) : (startTrial d p s).reason = .none := rfl
@[simp] theorem startTrial_err (d : Side) (p : Byte) : (startTrial d p s).err = s.err := rfl
@[simp] theorem startTrial_trigResult (d : Side) (p : Byte) : (startTrial d p s).trigResult = s.trigResult := rfl
@[simp] theorem startTrial_lfAngle (d : Side) (p : Byte) : (startTrial d p s).lfAngle = 0 := rfl
@[simp] theorem startTrial_lfR (d : Side) (p : Byte) : (startTrial d p s).lfR = 0 := rfl
@[simp] theorem startTrial_lfHit (d : Side) (p : Byte) : (startTrial d p s).lfHit = false := rfl
@[simp] theorem startTrial_lfValid (d : Side) (p : Byte) : (startTrial d p s).lfValid = false := rfl
@[simp] theorem startTrial_lfSrc (d : Side) (p : Byte) : (startTrial d p s).lfSrc = .encounter := rfl
@[simp] theorem startTrial_fireSteps (d : Side) (p : Byte) : (startTrial d p s).fireSteps = 0 := rfl
@[simp] theorem startTrial_eng (d : Side) (p : Byte) : (startTrial d p s).eng = s.eng := rfl
@[simp] theorem startTrial_sigma (d : Side) (p : Byte) : (startTrial d p s).sigma = s.sigma := rfl
@[simp] theorem startTrial_cfg (d : Side) (p : Byte) : (startTrial d p s).cfg = s.cfg := rfl
@[simp] theorem startTrial_rngLog (d : Side) (p : Byte) : (startTrial d p s).rngLog = s.rngLog := rfl
@[simp] theorem startTrial_events (d : Side) (p : Byte) : (startTrial d p s).events = s.events := rfl
@[simp] theorem startTrial_rdata (d : Side) (p : Byte) : (startTrial d p s).rdata = s.rdata := rfl
@[simp] theorem startTrial_freeCount (d : Side) (p : Byte) : (startTrial d p s).freeCount = s.freeCount := rfl

/-! ### spendGoop -/

@[simp] theorem spendGoop_x : s.spendGoop.x = s.x := rfl
@[simp] theorem spendGoop_y : s.spendGoop.y = s.y := rfl
@[simp] theorem spendGoop_angle : s.spendGoop.angle = s.angle := rfl
@[simp] theorem spendGoop_goopCounter : s.spendGoop.goopCounter = s.goopCounter - 1 := rfl
@[simp] theorem spendGoop_goopTimer : s.spendGoop.goopTimer = s.goopTimer := rfl
@[simp] theorem spendGoop_gt : s.spendGoop.gt = s.gt := rfl
@[simp] theorem spendGoop_side : s.spendGoop.side = s.side := rfl
@[simp] theorem spendGoop_inRange : s.spendGoop.inRange = s.inRange := rfl
@[simp] theorem spendGoop_tx : s.spendGoop.tx = s.tx := rfl
@[simp] theorem spendGoop_ty : s.spendGoop.ty = s.ty := rfl
@[simp] theorem spendGoop_active : s.spendGoop.active = s.active := rfl
@[simp] theorem spendGoop_term : s.spendGoop.term = s.term := rfl
@[simp] theorem spendGoop_reason : s.spendGoop.reason = s.reason := rfl
@[simp] theorem spendGoop_err : s.spendGoop.err = s.err := rfl
@[simp] theorem spendGoop_trigResult : s.spendGoop.trigResult = s.trigResult := rfl
@[simp] theorem spendGoop_lfAngle : s.spendGoop.lfAngle = s.lfAngle := rfl
@[simp] theorem spendGoop_lfR : s.spendGoop.lfR = s.lfR := rfl
@[simp] theorem spendGoop_lfHit : s.spendGoop.lfHit = s.lfHit := rfl
@[simp] theorem spendGoop_lfValid : s.spendGoop.lfValid = s.lfValid := rfl
@[simp] theorem spendGoop_lfSrc : s.spendGoop.lfSrc = s.lfSrc := rfl
@[simp] theorem spendGoop_fireSteps : s.spendGoop.fireSteps = s.fireSteps := rfl
@[simp] theorem spendGoop_eng : s.spendGoop.eng = s.eng := rfl
@[simp] theorem spendGoop_sigma : s.spendGoop.sigma = s.sigma := rfl
@[simp] theorem spendGoop_cfg : s.spendGoop.cfg = s.cfg := rfl
@[simp] theorem spendGoop_rngLog : s.spendGoop.rngLog = s.rngLog := rfl
@[simp] theorem spendGoop_events : s.spendGoop.events = s.events := rfl
@[simp] theorem spendGoop_rdata : s.spendGoop.rdata = s.rdata := rfl
@[simp] theorem spendGoop_freeCount : s.spendGoop.freeCount = s.freeCount := rfl

/-! ### countDown -/

@[simp] theorem countDown_x : s.countDown.x = s.x := rfl
@[simp] theorem countDown_y : s.countDown.y = s.y := rfl
@[simp] theorem countDown_angle : s.countDown.angle = s.angle := rfl
@[simp] theorem countDown_goopCounter : s.countDown.goopCounter = s.goopCounter := rfl
@[simp] theorem countDown_goopTimer : s.countDown.goopTimer = s.goopTimer - 1 := rfl
@[simp] theorem countDown_gt : s.countDown.gt = s.gt := rfl
@[simp] theorem countDown_side : s.countDown.side = s.side := rfl
@[simp] theorem countDown_inRange : s.countDown.inRange = s.inRange := rfl
@[simp] theorem countDown_tx : s.countDown.tx = s.tx := rfl
@[simp] theorem countDown_ty : s.countDown.ty = s.ty := rfl
@[simp] theorem countDown_active : s.countDown.active = s.active := rfl
@[simp] theorem countDown_term : s.countDown.term = s.term := rfl
@[simp] theorem countDown_reason : s.countDown.reason = s.reason := rfl
@[simp] theorem countDown_err : s.countDown.err = s.err := rfl
@[simp] theorem countDown_trigResult : s.countDown.trigResult = s.trigResult := rfl
@[simp] theorem countDown_lfAngle : s.countDown.lfAngle = s.lfAngle := rfl
@[simp] theorem countDown_lfR : s.countDown.lfR = s.lfR := rfl
@[simp] theorem countDown_lfHit : s.countDown.lfHit = s.lfHit := rfl
@[simp] theorem countDown_lfValid : s.countDown.lfValid = s.lfValid := rfl
@[simp] theorem countDown_lfSrc : s.countDown.lfSrc = s.lfSrc := rfl
@[simp] theorem countDown_fireSteps : s.countDown.fireSteps = s.fireSteps := rfl
@[simp] theorem countDown_eng : s.countDown.eng = s.eng := rfl
@[simp] theorem countDown_sigma : s.countDown.sigma = s.sigma := rfl
@[simp] theorem countDown_cfg : s.countDown.cfg = s.cfg := rfl
@[simp] theorem countDown_rngLog : s.countDown.rngLog = s.rngLog := rfl
@[simp] theorem countDown_events : s.countDown.events = s.events := rfl
@[simp] theorem countDown_rdata : s.countDown.rdata = s.rdata := rfl
@[simp] theorem countDown_freeCount : s.countDown.freeCount = s.freeCount := rfl

/-! ### raiseError, arm and approachStep -/

@[simp] theorem raiseError_x (e : Err) : (raiseError e s).x = s.x := by unfold raiseError; split <;> rfl
@[simp] theorem raiseError_y (e : Err) : (raiseError e s).y = s.y := by unfold raiseError; split <;> rfl
@[simp] theorem raiseError_angle (e : Err) : (raiseError e s).angle = s.angle := by unfold raiseError; split <;> rfl
@[simp] theorem raiseError_goopCounter (e : Err) : (raiseError e s).goopCounter = s.goopCounter := by unfold raiseError; split <;> rfl
@[simp] theorem raiseError_goopTimer (e : Err) : (raiseError e s).goopTimer = s.goopTimer := by unfold raiseError; split <;> rfl
@[simp] theorem raiseError_gt (e : Err) : (raiseError e s).gt = s.gt := by unfold raiseError; split <;> rfl
@[simp] theorem raiseError_side (e : Err) : (raiseError e s).side = s.side := by unfold raiseError; split <;> rfl
@[simp] theorem raiseError_inRange (e : Err) : (raiseError e s).inRange = s.inRange := by unfold raiseError; split <;> rfl
@[simp] theorem raiseError_tx (e : Err) : (raiseError e s).tx = s.tx := by unfold raiseError; split <;> rfl
@[simp] theorem raiseError_ty (e : Err) : (raiseError e s).ty = s.ty := by unfold raiseError; split <;> rfl
@[simp] theorem raiseError_active (e : Err) : (raiseError e s).active = s.active := by unfold raiseError; split <;> rfl
@[simp] theorem raiseError_term (e : Err) : (raiseError e s).term = s.term := by unfold raiseError; split <;> rfl
@[simp] theorem raiseError_reason (e : Err) : (raiseError e s).reason = s.reason := by unfold raiseError; split <;> rfl
@[simp] theorem raiseError_err (e : Err) : (raiseError e s).err = if s.err = .none then e else s.err := by
  unfold raiseError; split <;> simp_all
@[simp] theorem raiseError_trigResult (e : Err) : (raiseError e s).trigResult = s.trigResult := by unfold raiseError; split <;> rfl
@[simp] theorem raiseError_lfAngle (e : Err) : (raiseError e s).lfAngle = s.lfAngle := by unfold raiseError; split <;> rfl
@[simp] theorem raiseError_lfR (e : Err) : (raiseError e s).lfR = s.lfR := by unfold raiseError; split <;> rfl
@[simp] theorem raiseError_lfHit (e : Err) : (raiseError e s).lfHit = s.lfHit := by unfold raiseError; split <;> rfl
@[simp] theorem raiseError_lfValid (e : Err) : (raiseError e s).lfValid = s.lfValid := by unfold raiseError; split <;> rfl
@[simp] theorem raiseError_lfSrc (e : Err) : (raiseError e s).lfSrc = s.lfSrc := by unfold raiseError; split <;> rfl
@[simp] theorem raiseError_fireSteps (e : Err) : (raiseError e s).fireSteps = s.fireSteps := by unfold raiseError; split <;> rfl
@[simp] theorem raiseError_eng (e : Err) : (raiseError e s).eng = s.eng := by unfold raiseError; split <;> rfl
@[simp] theorem raiseError_sigma (e : Err) : (raiseError e s).sigma = s.sigma := by unfold raiseError; split <;> rfl
@[simp] theorem raiseError_cfg (e : Err) : (raiseError e s).cfg = s.cfg := by unfold raiseError; split <;> rfl
@[simp] theorem raiseError_rngLog (e : Err) : (raiseError e s).rngLog = s.rngLog := by unfold raiseError; split <;> rfl
@[simp] theorem raiseError_events (e : Err) : (raiseError e s).events = s.events := by unfold raiseError; split <;> rfl
@[simp] theorem raiseError_rdata (e : Err) : (raiseError e s).rdata = s.rdata := by unfold raiseError; split <;> rfl
@[simp] theorem raiseError_freeCount (e : Err) : (raiseError e s).freeCount = s.freeCount := by unfold raiseError; split <;> rfl
@[simp] theorem arm_x (r : Byte) : (arm r s).x = s.x := by unfold arm; split <;> rfl
@[simp] theorem arm_y (r : Byte) : (arm r s).y = s.y := by unfold arm; split <;> rfl
@[simp] theorem arm_angle (r : Byte) : (arm r s).angle = s.angle := by unfold arm; split <;> rfl
@[simp] theorem arm_goopCounter (r : Byte) : (arm r s).goopCounter = s.goopCounter := by unfold arm; split <;> rfl
@[simp] theorem arm_gt (r : Byte) : (arm r s).gt = s.gt := by unfold arm; split <;> rfl
@[simp] theorem arm_side (r : Byte) : (arm r s).side = s.side := by unfold arm; split <;> rfl
@[simp] theorem arm_inRange (r : Byte) : (arm r s).inRange = s.inRange := by unfold arm; split <;> rfl
@[simp] theorem arm_tx (r : Byte) : (arm r s).tx = s.tx := by unfold arm; split <;> rfl
@[simp] theorem arm_ty (r : Byte) : (arm r s).ty = s.ty := by unfold arm; split <;> rfl
@[simp] theorem arm_active (r : Byte) : (arm r s).active = s.active := by unfold arm; split <;> rfl
@[simp] theorem arm_term (r : Byte) : (arm r s).term = s.term := by unfold arm; split <;> rfl
@[simp] theorem arm_reason (r : Byte) : (arm r s).reason = s.reason := by unfold arm; split <;> rfl
@[simp] theorem arm_err (r : Byte) : (arm r s).err = s.err := by unfold arm; split <;> rfl
@[simp] theorem arm_trigResult (r : Byte) : (arm r s).trigResult = s.trigResult := by unfold arm; split <;> rfl
@[simp] theorem arm_lfAngle (r : Byte) : (arm r s).lfAngle = s.lfAngle := by unfold arm; split <;> rfl
@[simp] theorem arm_lfR (r : Byte) : (arm r s).lfR = s.lfR := by unfold arm; split <;> rfl
@[simp] theorem arm_lfHit (r : Byte) : (arm r s).lfHit = s.lfHit := by unfold arm; split <;> rfl
@[simp] theorem arm_lfValid (r : Byte) : (arm r s).lfValid = s.lfValid := by unfold arm; split <;> rfl
@[simp] theorem arm_lfSrc (r : Byte) : (arm r s).lfSrc = s.lfSrc := by unfold arm; split <;> rfl
@[simp] theorem arm_fireSteps (r : Byte) : (arm r s).fireSteps = s.fireSteps := by unfold arm; split <;> rfl
@[simp] theorem arm_eng (r : Byte) : (arm r s).eng = s.eng := by unfold arm; split <;> rfl
@[simp] theorem arm_sigma (r : Byte) : (arm r s).sigma = s.sigma := by unfold arm; split <;> rfl
@[simp] theorem arm_cfg (r : Byte) : (arm r s).cfg = s.cfg := by unfold arm; split <;> rfl
@[simp] theorem arm_rngLog (r : Byte) : (arm r s).rngLog = s.rngLog := by unfold arm; split <;> rfl
@[simp] theorem arm_events (r : Byte) : (arm r s).events = s.events := by unfold arm; split <;> rfl
@[simp] theorem arm_rdata (r : Byte) : (arm r s).rdata = s.rdata := by unfold arm; split <;> rfl
@[simp] theorem arm_freeCount (r : Byte) : (arm r s).freeCount = s.freeCount := by unfold arm; split <;> rfl
@[simp] theorem approachStep_y : (approachStep s).y = s.y := by unfold approachStep; split <;> rfl
@[simp] theorem approachStep_goopCounter : (approachStep s).goopCounter = s.goopCounter := by unfold approachStep; split <;> rfl
@[simp] theorem approachStep_goopTimer : (approachStep s).goopTimer = s.goopTimer := by unfold approachStep; split <;> rfl
@[simp] theorem approachStep_gt : (approachStep s).gt = s.gt := by unfold approachStep; split <;> rfl
@[simp] theorem approachStep_side : (approachStep s).side = s.side := by unfold approachStep; split <;> rfl
@[simp] theorem approachStep_tx : (approachStep s).tx = s.tx := by unfold approachStep; split <;> rfl
@[simp] theorem approachStep_ty : (approachStep s).ty = s.ty := by unfold approachStep; split <;> rfl
@[simp] theorem approachStep_active : (approachStep s).active = s.active := by unfold approachStep; split <;> rfl
@[simp] theorem approachStep_term : (approachStep s).term = s.term := by unfold approachStep; split <;> rfl
@[simp] theorem approachStep_reason : (approachStep s).reason = s.reason := by unfold approachStep; split <;> rfl
@[simp] theorem approachStep_err : (approachStep s).err = s.err := by unfold approachStep; split <;> rfl
@[simp] theorem approachStep_trigResult : (approachStep s).trigResult = s.trigResult := by unfold approachStep; split <;> rfl
@[simp] theorem approachStep_lfAngle : (approachStep s).lfAngle = s.lfAngle := by unfold approachStep; split <;> rfl
@[simp] theorem approachStep_lfR : (approachStep s).lfR = s.lfR := by unfold approachStep; split <;> rfl
@[simp] theorem approachStep_lfHit : (approachStep s).lfHit = s.lfHit := by unfold approachStep; split <;> rfl
@[simp] theorem approachStep_lfValid : (approachStep s).lfValid = s.lfValid := by unfold approachStep; split <;> rfl
@[simp] theorem approachStep_lfSrc : (approachStep s).lfSrc = s.lfSrc := by unfold approachStep; split <;> rfl
@[simp] theorem approachStep_fireSteps : (approachStep s).fireSteps = s.fireSteps := by unfold approachStep; split <;> rfl
@[simp] theorem approachStep_eng : (approachStep s).eng = s.eng := by unfold approachStep; split <;> rfl
@[simp] theorem approachStep_sigma : (approachStep s).sigma = s.sigma := by unfold approachStep; split <;> rfl
@[simp] theorem approachStep_cfg : (approachStep s).cfg = s.cfg := by unfold approachStep; split <;> rfl
@[simp] theorem approachStep_rngLog : (approachStep s).rngLog = s.rngLog := by unfold approachStep; split <;> rfl
@[simp] theorem approachStep_events : (approachStep s).events = s.events := by unfold approachStep; split <;> rfl
@[simp] theorem approachStep_rdata : (approachStep s).rdata = s.rdata := by unfold approachStep; split <;> rfl
@[simp] theorem approachStep_freeCount : (approachStep s).freeCount = s.freeCount := by unfold approachStep; split <;> rfl

/-! ### BUSY -/

@[simp] theorem busy_eq_false_iff : s.busy = false ↔ s.eng = .idle := by
  unfold State.busy; split <;> simp_all

@[simp] theorem busy_eq_true_iff : s.busy = true ↔ s.eng ≠ .idle := by
  unfold State.busy; split <;> simp_all

@[simp] theorem complete_busy : s.complete.busy = false := rfl

@[simp] theorem hold_busy (c : Instr) : (s.hold c).busy = true := rfl
@[simp] theorem hang_busy (c : Instr) : (s.hang c).busy = true := rfl

end Sys2Proof.Machine
end

