-- ==== Sys2Proof/Laws/Ops.lean ====
section
/-! SUPPORT. What each shared operation can do, said once: the RNG port, host writes, the projectile test. -/

namespace Sys2Proof.Machine

/-! ### The RNG port -/

theorem ask_eq_answered {q : RngReq} {s t : State} {b : Byte} :
    ask q s = .answered b t ↔ s.collaborator.answers q s.sigma = true ∧
      b = (rngReply s.collaborator q s.sigma).1 ∧ t = s.issued q (rngReply s.collaborator q s.sigma).2 := by
  unfold ask
  split
  · rename_i h
    simp only [h, true_and, Reply.answered.injEq]
    exact and_congr eq_comm eq_comm
  · simp_all

theorem ask_eq_never {q : RngReq} {s t : State} :
    ask q s = .never t ↔ s.collaborator.answers q s.sigma = false ∧ t = s.issued q s.sigma := by
  unfold ask
  split
  · simp_all
  · rename_i h
    simp only [Reply.never.injEq, Bool.not_eq_true] at h ⊢
    simp only [h, true_and]
    exact eq_comm

theorem draw_eq_answered {site : Site} {s t : State} {b : Byte} :
    draw site s = .answered b t ↔ s.collaborator.answers (.draw site (s.cfg.drawKind site)) s.sigma = true ∧
      b = (rngReply s.collaborator (.draw site (s.cfg.drawKind site)) s.sigma).1 ∧
      t = s.issued (.draw site (s.cfg.drawKind site))
        (rngReply s.collaborator (.draw site (s.cfg.drawKind site)) s.sigma).2 := ask_eq_answered

theorem draw_eq_never {site : Site} {s t : State} :
    draw site s = .never t ↔ s.collaborator.answers (.draw site (s.cfg.drawKind site)) s.sigma = false ∧
      t = s.issued (.draw site (s.cfg.drawKind site)) s.sigma := ask_eq_never

theorem rngSeed_eq_answered {v : Half} {s t : State} {b : Byte} :
    rngSeed v s = .answered b t ↔ s.collaborator.answers (.seed v) s.sigma = true ∧ b = 0 ∧
      t = s.issued (.seed v) (s.collaborator.seed v) := ask_eq_answered

theorem rngSeed_eq_never {v : Half} {s t : State} :
    rngSeed v s = .never t ↔ s.collaborator.answers (.seed v) s.sigma = false ∧ t = s.issued (.seed v) s.sigma :=
  ask_eq_never

theorem rngAdvance_eq_answered {s t : State} {b : Byte} :
    rngAdvance s = .answered b t ↔ s.collaborator.answers .advance s.sigma = true ∧ b = 0 ∧
      t = s.issued .advance (s.collaborator.advance s.sigma) := ask_eq_answered

theorem rngAdvance_eq_never {s t : State} :
    rngAdvance s = .never t ↔ s.collaborator.answers .advance s.sigma = false ∧ t = s.issued .advance s.sigma :=
  ask_eq_never

/-! ### The projectile test -/

/-- A test that ended took more steps than it had counted, and at most its fuel more. -/
theorem flight_steps {p : Params} {tx ty : Half} {vx vy : Word} {fuel : Nat} :
    ∀ {px py : Word} {n m : Nat} {h : Bool}, flight p tx ty vx vy fuel px py n = some (h, m) →
      n < m ∧ m ≤ n + fuel := by
  induction fuel with
  | zero => simp [flight]
  | succ fuel ih =>
    intro px py n m h e
    simp only [flight] at e
    split at e
    · cases e
      omega
    · split at e
      · cases e
        omega
      · have := ih e
        omega

theorem proj_steps {p : Params} {x y : Half} {side : Side} {tx ty : Half} {r : Byte} {h : Bool} {n : Nat}
    (e : proj p x y side tx ty r = some (h, n)) : 1 ≤ n ∧ n ≤ flightBound := by
  have := flight_steps e
  omega

theorem fireTest_eq_some {side : Side} {r : Byte} {src : FireSrc} {s t : State} {h : Bool} :
    fireTest side r src s = some (h, t) ↔
      ∃ n, proj s.cfg s.x s.y side s.tx s.ty r = some (h, n) ∧
        t = s.recordFire src h r (launchAngle s.cfg side r) n := by
  unfold fireTest
  split
  · simp_all
  · rename_i h' n' e
    simp only [e, Option.some.injEq, Prod.mk.injEq]
    constructor
    · rintro ⟨rfl, rfl⟩
      exact ⟨n', ⟨rfl, rfl⟩, rfl⟩
    · rintro ⟨n, ⟨rfl, rfl⟩, rfl⟩
      exact ⟨rfl, rfl⟩

theorem fireTest_eq_none {side : Side} {r : Byte} {src : FireSrc} {s : State} :
    fireTest side r src s = none ↔ proj s.cfg s.x s.y side s.tx s.ty r = none := by
  unfold fireTest
  split <;> simp_all

/-- What `FIRE_PROJECTILE()` can do (R163): with `q` the FIRE draw, it is not answered, or the test with its byte
never ends, or it ends and is recorded. -/
theorem fireProjectile_cases (s : State) :
    let q := RngReq.draw .fire (s.cfg.drawKind .fire)
    let r := (rngReply s.collaborator q s.sigma).1
    let t := s.issued q (rngReply s.collaborator q s.sigma).2
    s.collaborator.answers q s.sigma = false ∧ fireProjectile s = .never (s.issued q s.sigma) ∨
    s.collaborator.answers q s.sigma = true ∧ proj s.cfg s.x s.y s.side s.tx s.ty r = none ∧
      fireProjectile s = .never t ∨
    s.collaborator.answers q s.sigma = true ∧ (∃ n, proj s.cfg s.x s.y s.side s.tx s.ty r = some (true, n) ∧
      fireProjectile s = .hit (t.recordFire .encounter true r (launchAngle s.cfg s.side r) n)) ∨
    s.collaborator.answers q s.sigma = true ∧ ∃ n, proj s.cfg s.x s.y s.side s.tx s.ty r = some (false, n) ∧
      fireProjectile s = .miss (t.recordFire .encounter false r (launchAngle s.cfg s.side r) n) := by
  intro q r t
  unfold fireProjectile
  split
  · rename_i e
    obtain ⟨h, rfl⟩ := draw_eq_never.1 e
    exact .inl ⟨h, rfl⟩
  · rename_i e
    obtain ⟨h, rfl, rfl⟩ := draw_eq_answered.1 e
    right
    split
    · rename_i e
      exact .inl ⟨h, by simpa using fireTest_eq_none.1 e, rfl⟩
    · rename_i e
      obtain ⟨n, hp, rfl⟩ := fireTest_eq_some.1 e
      exact .inr (.inl ⟨h, n, hp, rfl⟩)
    · rename_i e
      obtain ⟨n, hp, rfl⟩ := fireTest_eq_some.1 e
      exact .inr (.inr ⟨h, n, hp, rfl⟩)

/-! ### Host accesses -/

/-- The access decoder accepts exactly the well-formed accesses, and gives their offset (R51). -/
theorem decodeAccess_eq_ok {base off : Nat} {a : Access} :
    decodeAccess base a = .ok off ↔ a.wf base = true ∧ off = a.addr - base := by
  unfold decodeAccess Access.wf
  simp only [Bool.and_eq_true, beq_iff_eq, decide_eq_true_eq]
  split
  · simp_all
  · split
    · simp
      omega
    · split
      · simp_all
      · simp only [Except.ok.injEq]
        omega

/-- What a write to CMD does (R172). -/
theorem offer_cases (w : Word) (s : State) :
    s.busy = true ∧ offer w s = raiseError .busyOverrun s ∨
    s.busy = false ∧ (∃ why, decode w = .illegal why) ∧ offer w s = raiseError .illegalCmd s ∨
    s.busy = false ∧ (∃ c, decode w = .command c ∧ needsTrial c = true) ∧ s.active = false ∧
      offer w s = raiseError .notActive s ∨
    s.busy = false ∧ ∃ c, decode w = .command c ∧ (needsTrial c = true → s.active = true) ∧ offer w s = s.hold c := by
  unfold offer
  by_cases hb : s.busy = true
  · simp [hb]
  · simp only [hb]
    cases hd : decode w with
    | illegal why => simp_all
    | command c =>
      by_cases hn : (needsTrial c && !s.active) = true
      · simp_all
      · simp only [hn]
        simp_all

/-- What a write to POS does (R175). -/
theorem writePos_cases (v : Word) (s : State) :
    s.busy = true ∧ writePos v s = raiseError .busyOverrun s ∨
    s.busy = false ∧ s.active = true ∧ writePos v s = raiseError .locked s ∨
    s.busy = false ∧ s.active = false ∧
      writePos v s = { s with x := v.extractLsb 15 0, y := v.extractLsb 31 16 } := by
  unfold writePos
  cases s.busy <;> cases s.active <;> simp

/-- What a write to TARGET does (R174). -/
theorem writeTarget_cases (v : Word) (s : State) :
    s.busy = true ∧ writeTarget v s = raiseError .busyOverrun s ∨
    s.busy = false ∧ s.active = true ∧ writeTarget v s = raiseError .locked s ∨
    s.busy = false ∧ s.active = false ∧
      writeTarget v s = { s with tx := v.extractLsb 15 0, ty := v.extractLsb 31 16 } := by
  unfold writeTarget
  cases s.busy <;> cases s.active <;> simp

/-- What a host write does at each offset (R172, R174 to R176). -/
theorem hostWrite_cases (off : Nat) (v : Word) (s : State) :
    off = 0x00 ∧ hostWrite off v s = offer v s ∨
    off = 0x0C ∧ hostWrite off v s = writePos v s ∨
    off = 0x10 ∧ hostWrite off v s = writeTarget v s ∨
    off ≠ 0x00 ∧ off ≠ 0x0C ∧ off ≠ 0x10 ∧ hostWrite off v s = s := by
  unfold hostWrite
  split <;> simp_all

/-- What a host read does: it delivers a word, and draws a free value where R226 says so. -/
theorem hostRead_cases (off : Nat) (s : State) :
    s.busy = true ∧ readsExactly off = false ∧ hostRead off s = freeRead s ∨
    (s.busy = false ∨ readsExactly off = true) ∧ hostRead off s = { s with rdata := regWord off s } := by
  unfold hostRead
  cases s.busy <;> cases readsExactly off <;> simp

end Sys2Proof.Machine
end

