-- ==== Sys2Proof/Laws/Encounter.lean ====
section
/-! SUPPORT. What each step of the frame can do, said once, and the frame and the RUN loop in those terms
(41_encounter.md R112 to R126). -/

namespace Sys2Proof.Machine

@[simp] theorem andThen_cont (s : State) (k : State → FrameResult) : (FrameResult.cont s).andThen k = k s := rfl

@[simp] theorem andThen_terminated (s : State) (k : State → FrameResult) :
    (FrameResult.terminated s).andThen k = .terminated s := rfl

@[simp] theorem andThen_hang (s : State) (k : State → FrameResult) : (FrameResult.hang s).andThen k = .hang s := rfl

theorem andThen_eq_cont {r : FrameResult} {k : State → FrameResult} {t : State} :
    r.andThen k = .cont t ↔ ∃ s, r = .cont s ∧ k s = .cont t := by
  cases r <;> simp

theorem andThen_eq_terminated {r : FrameResult} {k : State → FrameResult} {t : State} :
    r.andThen k = .terminated t ↔ r = .terminated t ∨ ∃ s, r = .cont s ∧ k s = .terminated t := by
  cases r <;> simp

theorem andThen_eq_hang {r : FrameResult} {k : State → FrameResult} {t : State} :
    r.andThen k = .hang t ↔ r = .hang t ∨ ∃ s, r = .cont s ∧ k s = .hang t := by
  cases r <;> simp

/-- A request with a discarded byte: issued, or never answered. -/
theorem drawDiscard_cases (site : Site) (s : State) :
    s.collaborator.answers (.draw site (s.cfg.drawKind site)) s.sigma = true ∧
      drawDiscard site s = .cont (s.issued (.draw site (s.cfg.drawKind site))
        (rngReply s.collaborator (.draw site (s.cfg.drawKind site)) s.sigma).2) ∨
    s.collaborator.answers (.draw site (s.cfg.drawKind site)) s.sigma = false ∧
      drawDiscard site s = .hang (s.issued (.draw site (s.cfg.drawKind site)) s.sigma) := by
  unfold drawDiscard
  split
  · rename_i e
    obtain ⟨h, rfl⟩ := draw_eq_never.1 e
    exact .inr ⟨h, rfl⟩
  · rename_i e
    obtain ⟨h, -, rfl⟩ := draw_eq_answered.1 e
    exact .inl ⟨h, rfl⟩

/-- The gate of step 1 (R114). -/
abbrev TurretGate (s : State) : Prop := s.gt &&& turretMask = 0 ∧ (s.side = .right ∨ s.inRange = false)

/-- The gate of step 6 (R121). -/
abbrev PeriodicGate (s : State) : Prop := s.gt &&& periodicMask = 0

/-- Step 1 (R114). -/
theorem turretStep_cases (s : State) :
    ¬TurretGate s ∧ turretStep s = .cont s ∨
    TurretGate s ∧ s.collaborator.answers (.draw .turret (s.cfg.drawKind .turret)) s.sigma = true ∧
      turretStep s = .cont (s.issued (.draw .turret (s.cfg.drawKind .turret))
        (rngReply s.collaborator (.draw .turret (s.cfg.drawKind .turret)) s.sigma).2) ∨
    TurretGate s ∧ s.collaborator.answers (.draw .turret (s.cfg.drawKind .turret)) s.sigma = false ∧
      turretStep s = .hang (s.issued (.draw .turret (s.cfg.drawKind .turret)) s.sigma) := by
  unfold turretStep
  split
  · rename_i h
    rcases drawDiscard_cases .turret s with ⟨ha, e⟩ | ⟨ha, e⟩
    · exact .inr (.inl ⟨h, ha, e⟩)
    · exact .inr (.inr ⟨h, ha, e⟩)
  · rename_i h
    exact .inl ⟨h, rfl⟩

/-- Steps 3 and 4 (R117 to R119). -/
theorem rangeStep_cases (s : State) :
    s.inRange = false ∧ rangeStep s = .cont (approachStep s) ∨
    s.inRange = true ∧ s.collaborator.answers (.draw .arm (s.cfg.drawKind .arm)) s.sigma = true ∧
      rangeStep s = .cont (arm (rngReply s.collaborator (.draw .arm (s.cfg.drawKind .arm)) s.sigma).1
        (s.issued (.draw .arm (s.cfg.drawKind .arm))
          (rngReply s.collaborator (.draw .arm (s.cfg.drawKind .arm)) s.sigma).2)).move ∨
    s.inRange = true ∧ s.collaborator.answers (.draw .arm (s.cfg.drawKind .arm)) s.sigma = false ∧
      rangeStep s = .hang (s.issued (.draw .arm (s.cfg.drawKind .arm)) s.sigma) := by
  unfold rangeStep
  split
  · rename_i h
    unfold inRangeStep
    split
    · rename_i e
      obtain ⟨ha, rfl⟩ := draw_eq_never.1 e
      exact .inr (.inr ⟨h, ha, rfl⟩)
    · rename_i e
      obtain ⟨ha, rfl, rfl⟩ := draw_eq_answered.1 e
      exact .inr (.inl ⟨h, ha, rfl⟩)
  · rename_i h
    exact .inl ⟨by simpa using h, rfl⟩

/-- The shot of R120. -/
theorem shoot_cases (s : State) :
    (∃ t, fireProjectile s = .never t ∧ shoot s = .hang t) ∨
    (∃ t, fireProjectile s = .hit t ∧ shoot s = .terminated (t.terminate .hit)) ∨
    ∃ t, fireProjectile s = .miss t ∧ shoot s = .cont t := by
  unfold shoot
  cases e : fireProjectile s <;> simp

/-- Step 5 (R120). -/
theorem goopStep_cases (s : State) :
    s.goopTimer = 0 ∧ goopStep s = .cont s ∨
    s.goopTimer ≠ 0 ∧ s.goopTimer - 1 ≠ 0 ∧ goopStep s = .cont s.countDown ∨
    s.goopTimer - 1 = 0 ∧ s.goopCounter - 1 = 0 ∧
      goopStep s = .terminated (s.countDown.spendGoop.terminate .missGoop) ∨
    s.goopTimer - 1 = 0 ∧ s.goopCounter - 1 ≠ 0 ∧ goopStep s = shoot s.countDown.spendGoop := by
  unfold goopStep
  split
  · rename_i h
    exact .inl ⟨h, rfl⟩
  · rename_i h
    split
    · rename_i h'
      unfold expire
      split
      · rename_i h''
        exact .inr (.inr (.inl ⟨h', h'', rfl⟩))
      · rename_i h''
        exact .inr (.inr (.inr ⟨h', h'', rfl⟩))
    · rename_i h'
      exact .inr (.inl ⟨h, h', rfl⟩)

/-- Step 6 (R121). -/
theorem periodicStep_cases (s : State) :
    ¬PeriodicGate s ∧ periodicStep s = .cont s ∨
    PeriodicGate s ∧ s.collaborator.answers (.draw .periodic (s.cfg.drawKind .periodic)) s.sigma = true ∧
      periodicStep s = .cont (s.issued (.draw .periodic (s.cfg.drawKind .periodic))
        (rngReply s.collaborator (.draw .periodic (s.cfg.drawKind .periodic)) s.sigma).2) ∨
    PeriodicGate s ∧ s.collaborator.answers (.draw .periodic (s.cfg.drawKind .periodic)) s.sigma = false ∧
      periodicStep s = .hang (s.issued (.draw .periodic (s.cfg.drawKind .periodic)) s.sigma) := by
  unfold periodicStep
  split
  · rename_i h
    rcases drawDiscard_cases .periodic s with ⟨ha, e⟩ | ⟨ha, e⟩
    · exact .inr (.inl ⟨h, ha, e⟩)
    · exact .inr (.inr ⟨h, ha, e⟩)
  · rename_i h
    exact .inl ⟨h, rfl⟩

/-- Step 8 and the advance (R123, R124). -/
theorem exitStep_cases (s : State) :
    crossed s.cfg s.side s.x = true ∧ exitStep s = .terminated (s.terminate .missExit) ∨
    crossed s.cfg s.side s.x = false ∧ s.collaborator.answers .advance s.sigma = true ∧
      exitStep s = .cont (s.issued .advance (s.collaborator.advance s.sigma)) ∨
    crossed s.cfg s.side s.x = false ∧ s.collaborator.answers .advance s.sigma = false ∧
      exitStep s = .hang (s.issued .advance s.sigma) := by
  unfold exitStep
  split
  · rename_i h
    exact .inl ⟨h, rfl⟩
  · rename_i h
    have h' : crossed s.cfg s.side s.x = false := by simpa using h
    split
    · rename_i e
      obtain ⟨ha, rfl⟩ := rngAdvance_eq_never.1 e
      exact .inr (.inr ⟨h', ha, rfl⟩)
    · rename_i e
      obtain ⟨ha, -, rfl⟩ := rngAdvance_eq_answered.1 e
      exact .inr (.inl ⟨h', ha, rfl⟩)

theorem onlyRequestsOnHang_eq_cont {r : FrameResult} {s t : State} :
    r.onlyRequestsOnHang s = .cont t ↔ r = .cont t := by
  cases r <;> simp [FrameResult.onlyRequestsOnHang]

theorem onlyRequestsOnHang_eq_terminated {r : FrameResult} {s t : State} :
    r.onlyRequestsOnHang s = .terminated t ↔ r = .terminated t := by
  cases r <;> simp [FrameResult.onlyRequestsOnHang]

/-- A frame that never completes has changed no register (R134). -/
theorem frame_eq_hang {s t : State} :
    frame s = .hang t ↔ ∃ u, frameSteps s = .hang u ∧ t = s.withRequestsOf u := by
  unfold frame
  cases frameSteps s <;> simp [FrameResult.onlyRequestsOnHang, eq_comm]

/-- A frame that continues passes through all its steps (R125). -/
theorem frame_eq_cont {s t : State} :
    frame s = .cont t ↔ ∃ s1 s2 s3 s4, turretStep s = .cont s1 ∧ rangeStep (oscillate s1) = .cont s2 ∧
      goopStep s2 = .cont s3 ∧ periodicStep s3 = .cont s4 ∧ exitStep (tick s4) = .cont t := by
  simp only [frame, onlyRequestsOnHang_eq_cont, frameSteps, andThen_eq_cont]
  constructor
  · rintro ⟨s1, h1, s2, h2, s3, h3, s4, h4, h5⟩
    exact ⟨s1, s2, s3, s4, h1, h2, h3, h4, h5⟩
  · rintro ⟨s1, s2, s3, s4, h1, h2, h3, h4, h5⟩
    exact ⟨s1, h1, s2, h2, s3, h3, s4, h4, h5⟩

/-- A frame terminates at step 5 or at step 8 and nowhere else (R112, R113). -/
theorem frame_eq_terminated {s t : State} :
    frame s = .terminated t ↔ ∃ s1 s2, turretStep s = .cont s1 ∧ rangeStep (oscillate s1) = .cont s2 ∧
      (goopStep s2 = .terminated t ∨
        ∃ s3 s4, goopStep s2 = .cont s3 ∧ periodicStep s3 = .cont s4 ∧ exitStep (tick s4) = .terminated t) := by
  have h1 : turretStep s ≠ .terminated t := by rcases turretStep_cases s with h | h | h <;> simp [h]
  have h2 : ∀ u, rangeStep u ≠ .terminated t := fun u => by rcases rangeStep_cases u with h | h | h <;> simp [h]
  have h3 : ∀ u, periodicStep u ≠ .terminated t := fun u => by rcases periodicStep_cases u with h | h | h <;> simp [h]
  simp only [frame, onlyRequestsOnHang_eq_terminated, frameSteps, andThen_eq_terminated, h1, h2, h3, false_or]
  constructor
  · rintro ⟨s1, e1, s2, e2, h⟩
    refine ⟨s1, s2, e1, e2, ?_⟩
    rcases h with h | ⟨s3, e3, s4, e4, e5⟩
    · exact .inl h
    · exact .inr ⟨s3, s4, e3, e4, e5⟩
  · rintro ⟨s1, s2, e1, e2, h⟩
    refine ⟨s1, e1, s2, e2, ?_⟩
    rcases h with h | ⟨s3, s4, e3, e4, e5⟩
    · exact .inl h
    · exact .inr ⟨s3, e3, s4, e4, e5⟩

/-- A frame never completes only at one of its requests or in its projectile test: the step it stops in (R134). -/
theorem frameSteps_eq_hang {s t : State} :
    frameSteps s = .hang t ↔
      turretStep s = .hang t ∨ ∃ s1, turretStep s = .cont s1 ∧ (rangeStep (oscillate s1) = .hang t ∨
        ∃ s2, rangeStep (oscillate s1) = .cont s2 ∧ (goopStep s2 = .hang t ∨
          ∃ s3, goopStep s2 = .cont s3 ∧ (periodicStep s3 = .hang t ∨
            ∃ s4, periodicStep s3 = .cont s4 ∧ exitStep (tick s4) = .hang t))) := by
  simp only [frameSteps, andThen_eq_hang]

theorem runFrames_zero (s : State) : runFrames 0 s = .cont s := rfl

theorem runFrames_succ (n : Nat) (s : State) : runFrames (n + 1) s = (frame s).andThen (runFrames n) := rfl

/-! ### The commands -/

/-- Every command answers a next state (R190). -/
theorem exec_eq_next (i : Instr) (s : State) : ∃ t, exec i s = .next t := by
  cases i <;> exact ⟨_, rfl⟩

theorem exec_start_cases (side : Side) (phase : Byte) (seed : Half) (s : State) :
    s.collaborator.answers (.seed seed) s.sigma = true ∧ exec (.start side phase seed) s =
      .next (startTrial side phase (s.issued (.seed seed) (s.collaborator.seed seed))).complete ∨
    s.collaborator.answers (.seed seed) s.sigma = false ∧ exec (.start side phase seed) s =
      .next ((s.issued (.seed seed) s.sigma).hang (.start side phase seed)) := by
  simp only [exec, execStart]
  split
  · rename_i e
    obtain ⟨h, rfl⟩ := rngSeed_eq_never.1 e
    exact .inr ⟨h, rfl⟩
  · rename_i e
    obtain ⟨h, -, rfl⟩ := rngSeed_eq_answered.1 e
    exact .inl ⟨h, rfl⟩

theorem exec_step_cases (s : State) :
    s.active = false ∧ exec .step s = .next (refuseInactive s) ∨
    s.active = true ∧ (∃ t, frame s = .cont t ∧ exec .step s = .next t.complete) ∨
    s.active = true ∧ (∃ t, frame s = .terminated t ∧ exec .step s = .next t.complete) ∨
    s.active = true ∧ (∃ t, frame s = .hang t ∧ exec .step s = .next (t.hang .step)) := by
  simp only [exec, execStep]
  cases s.active <;> cases frame s <;> simp

theorem exec_run_cases (s : State) :
    s.active = false ∧ exec .run s = .next (refuseInactive s) ∨
    s.active = true ∧ (∃ t, runFrames runFuel s = .cont t ∧ exec .run s = .next (t.hold .run)) ∨
    s.active = true ∧ (∃ t, runFrames runFuel s = .terminated t ∧ exec .run s = .next t.complete) ∨
    s.active = true ∧ (∃ t, runFrames runFuel s = .hang t ∧ exec .run s = .next (t.hang .run)) := by
  simp only [exec, execRun]
  cases s.active
  · simp
  · cases runFrames runFuel s <;> simp

theorem exec_fire_cases (side : Side) (r : Byte) (s : State) :
    (∃ h n, proj s.cfg s.x s.y side s.tx s.ty r = some (h, n) ∧ exec (.fire side r) s =
      .next (s.recordFire .command h r (launchAngle s.cfg side r) n).complete) ∨
    proj s.cfg s.x s.y side s.tx s.ty r = none ∧ exec (.fire side r) s = .next (s.hang (.fire side r)) := by
  simp only [exec, execFire]
  split
  · rename_i e
    exact .inr ⟨fireTest_eq_none.1 e, rfl⟩
  · rename_i h t e
    obtain ⟨n, hp, rfl⟩ := fireTest_eq_some.1 e
    exact .inl ⟨h, n, hp, rfl⟩

/-! ### The step -/

/-- What one step can do: an engine move (which leaves a poll on the list), a poll of an idle block, an access, a
reset, a foreign request. -/
theorem step_cases (s : State) :
    (∃ u, (u = s ∨ ∃ es, u = s.withEvents es) ∧ step s = runEngine u) ∨
    (∃ rest, s.events = .wait :: rest ∧ s.busy = false ∧ step s = .next (hostRead 0x04 (s.withEvents rest))) ∨
    (∃ a rest, s.events = .access a :: rest ∧ step s = access a (s.withEvents rest)) ∨
    (∃ rest, s.events = .reset :: rest ∧ step s = .next (resetBlock (s.withEvents rest))) ∨
    ∃ rest, s.events = .foreignRng :: rest ∧ step s = .next (freeSigma (s.withEvents rest)) := by
  unfold step serve
  split
  · exact .inl ⟨s, .inl rfl, rfl⟩
  · rename_i a rest e
    exact .inr (.inr (.inl ⟨a, rest, e, rfl⟩))
  · rename_i rest e
    exact .inl ⟨_, .inr ⟨rest, rfl⟩, rfl⟩
  · rename_i rest e
    unfold poll
    cases h : s.busy
    · exact .inr (.inl ⟨rest, e, rfl, rfl⟩)
    · exact .inl ⟨s, .inl rfl, rfl⟩
  · rename_i rest e
    exact .inr (.inr (.inr (.inl ⟨rest, e, rfl⟩)))
  · rename_i rest e
    exact .inr (.inr (.inr (.inr ⟨rest, e, rfl⟩)))

theorem runEngine_cases (s : State) :
    (s.eng = .idle ∨ ∃ c, s.eng = .hung c) ∧ runEngine s = .next s ∨ ∃ c, s.eng = .exec c ∧ runEngine s = exec c s := by
  unfold runEngine
  split
  · rename_i h
    exact .inl ⟨.inl h, rfl⟩
  · rename_i c h
    exact .inr ⟨c, h, rfl⟩
  · rename_i c h
    exact .inl ⟨.inr ⟨c, h⟩, rfl⟩

/-- What a host access does. -/
theorem access_cases (a : Access) (s : State) :
    (∃ why, access a s = .refused (.badAccess why)) ∧ a.wf s.cfg.blockBase = false ∨
    a.wf s.cfg.blockBase = true ∧ a.op = .read ∧ access a s = .next (hostRead (a.addr - s.cfg.blockBase) s) ∨
    ∃ v, a.wf s.cfg.blockBase = true ∧ a.op = .write v ∧
      access a s = .next (hostWrite (a.addr - s.cfg.blockBase) v s) := by
  unfold access
  cases h : decodeAccess s.cfg.blockBase a with
  | error why =>
    refine .inl ⟨⟨why, rfl⟩, ?_⟩
    by_contra hw
    have := decodeAccess_eq_ok.2 ⟨by simpa using hw, rfl⟩
    rw [h] at this
    cases this
  | ok off =>
    obtain ⟨hw, rfl⟩ := decodeAccess_eq_ok.1 h
    cases ho : a.op with
    | read => exact .inr (.inl ⟨hw, rfl, rfl⟩)
    | write v => exact .inr (.inr ⟨v, hw, rfl, rfl⟩)

end Sys2Proof.Machine
end

