-- ==== Sys2Proof/Laws/Frame.lean ====
section
/-! SUPPORT. What a whole frame and a run of frames can do, from the case lemmas of their steps: the registers a frame
never touches, the trial flags after it, and the induction over the frames of RUN. -/

namespace Sys2Proof.Machine

/-- The registers that no step of a frame writes. -/
def FrameKeeps (s t : State) : Prop :=
  t.cfg = s.cfg ∧ t.side = s.side ∧ t.tx = s.tx ∧ t.ty = s.ty ∧ t.err = s.err ∧ t.trigResult = s.trigResult ∧
  t.events = s.events ∧ t.rdata = s.rdata ∧ t.freeCount = s.freeCount ∧ t.eng = s.eng

theorem FrameKeeps.refl (s : State) : FrameKeeps s s := by simp [FrameKeeps]

theorem FrameKeeps.trans {s t u : State} (h : FrameKeeps s t) (k : FrameKeeps t u) : FrameKeeps s u := by
  simp_all [FrameKeeps]

/-- The trial flags are unchanged. -/
def SameFlags (s t : State) : Prop := t.active = s.active ∧ t.term = s.term ∧ t.reason = s.reason

theorem SameFlags.trans {s t u : State} (h : SameFlags s t) (k : SameFlags t u) : SameFlags s u := by
  simp_all [SameFlags]

/-! ### The steps -/

theorem turretStep_keeps {s t : State} (h : turretStep s = .cont t) : FrameKeeps s t ∧ SameFlags s t := by
  rcases turretStep_cases s with ⟨_, e⟩ | ⟨_, _, e⟩ | ⟨_, _, e⟩ <;> rw [e] at h <;> simp at h <;> subst h <;>
    simp [FrameKeeps, SameFlags]

theorem rangeStep_keeps {s t : State} (h : rangeStep s = .cont t) : FrameKeeps s t ∧ SameFlags s t := by
  rcases rangeStep_cases s with ⟨_, e⟩ | ⟨_, _, e⟩ | ⟨_, _, e⟩ <;> rw [e] at h <;> simp at h <;> subst h <;>
    simp [FrameKeeps, SameFlags]

theorem fireProjectile_keeps {s t : State} (h : fireProjectile s = .hit t ∨ fireProjectile s = .miss t) :
    FrameKeeps s t ∧ SameFlags s t := by
  rcases fireProjectile_cases s with ⟨_, e⟩ | ⟨_, _, e⟩ | ⟨_, n, _, e⟩ | ⟨_, n, _, e⟩ <;> rw [e] at h <;> simp at h <;>
    subst h <;> simp [FrameKeeps, SameFlags]

theorem shoot_keeps {s t : State} (h : shoot s = .cont t ∨ shoot s = .terminated t) : FrameKeeps s t := by
  rcases shoot_cases s with ⟨u, _, e⟩ | ⟨u, hu, e⟩ | ⟨u, hu, e⟩ <;> rw [e] at h <;> simp at h <;> subst h
  · simpa [FrameKeeps] using (fireProjectile_keeps (.inl hu)).1
  · exact (fireProjectile_keeps (.inr hu)).1

theorem shoot_cont_flags {s t : State} (h : shoot s = .cont t) : SameFlags s t := by
  rcases shoot_cases s with ⟨u, _, e⟩ | ⟨u, hu, e⟩ | ⟨u, hu, e⟩ <;> rw [e] at h <;> simp at h
  subst h
  exact (fireProjectile_keeps (.inr hu)).2

theorem shoot_terminated_flags {s t : State} (h : shoot s = .terminated t) :
    t.active = false ∧ t.term = true ∧ t.reason = .hit := by
  rcases shoot_cases s with ⟨u, _, e⟩ | ⟨u, hu, e⟩ | ⟨u, hu, e⟩ <;> rw [e] at h <;> simp at h
  subst h
  simp

theorem goopStep_keeps {s t : State} (h : goopStep s = .cont t ∨ goopStep s = .terminated t) : FrameKeeps s t := by
  rcases goopStep_cases s with ⟨_, e⟩ | ⟨_, _, e⟩ | ⟨_, _, e⟩ | ⟨_, _, e⟩ <;> rw [e] at h
  · simp at h; subst h; exact .refl _
  · simp at h; subst h; simp [FrameKeeps]
  · simp at h; subst h; simp [FrameKeeps]
  · simpa [FrameKeeps] using shoot_keeps h

theorem goopStep_cont_flags {s t : State} (h : goopStep s = .cont t) : SameFlags s t := by
  rcases goopStep_cases s with ⟨_, e⟩ | ⟨_, _, e⟩ | ⟨_, _, e⟩ | ⟨_, _, e⟩ <;> rw [e] at h
  · simp at h; subst h; simp [SameFlags]
  · simp at h; subst h; simp [SameFlags]
  · simp at h
  · simpa [SameFlags] using shoot_cont_flags h

theorem goopStep_terminated_flags {s t : State} (h : goopStep s = .terminated t) :
    t.active = false ∧ t.term = true ∧ (t.reason = .hit ∨ t.reason = .missGoop) := by
  rcases goopStep_cases s with ⟨_, e⟩ | ⟨_, _, e⟩ | ⟨_, _, e⟩ | ⟨_, _, e⟩ <;> rw [e] at h
  · simp at h
  · simp at h
  · simp at h; subst h; simp
  · have := shoot_terminated_flags h; simp_all

theorem periodicStep_keeps {s t : State} (h : periodicStep s = .cont t) : FrameKeeps s t ∧ SameFlags s t := by
  rcases periodicStep_cases s with ⟨_, e⟩ | ⟨_, _, e⟩ | ⟨_, _, e⟩ <;> rw [e] at h <;> simp at h <;> subst h <;>
    simp [FrameKeeps, SameFlags]

theorem exitStep_keeps {s t : State} (h : exitStep s = .cont t ∨ exitStep s = .terminated t) : FrameKeeps s t := by
  rcases exitStep_cases s with ⟨_, e⟩ | ⟨_, _, e⟩ | ⟨_, _, e⟩ <;> rw [e] at h <;> simp at h <;> subst h <;>
    simp [FrameKeeps]

theorem exitStep_cont_flags {s t : State} (h : exitStep s = .cont t) : SameFlags s t := by
  rcases exitStep_cases s with ⟨_, e⟩ | ⟨_, _, e⟩ | ⟨_, _, e⟩ <;> rw [e] at h <;> simp at h <;> subst h <;>
    simp [SameFlags]

theorem exitStep_terminated_flags {s t : State} (h : exitStep s = .terminated t) :
    t.active = false ∧ t.term = true ∧ t.reason = .missExit := by
  rcases exitStep_cases s with ⟨_, e⟩ | ⟨_, _, e⟩ | ⟨_, _, e⟩ <;> rw [e] at h <;> simp at h <;> subst h <;> simp

theorem oscillate_keeps (s : State) : FrameKeeps s (oscillate s) ∧ SameFlags s (oscillate s) := by
  simp [FrameKeeps, SameFlags]

theorem tick_keeps (s : State) : FrameKeeps s (tick s) ∧ SameFlags s (tick s) := by simp [FrameKeeps, SameFlags]

/-! ### The frame -/

theorem frame_keeps {s t : State} (h : frame s = .cont t ∨ frame s = .terminated t) : FrameKeeps s t := by
  rcases h with h | h
  · obtain ⟨s1, s2, s3, s4, h1, h2, h3, h4, h5⟩ := frame_eq_cont.1 h
    exact (turretStep_keeps h1).1.trans <| (oscillate_keeps _).1.trans <| (rangeStep_keeps h2).1.trans <|
      (goopStep_keeps (.inl h3)).trans <| (periodicStep_keeps h4).1.trans <| (tick_keeps _).1.trans
        (exitStep_keeps (.inl h5))
  · obtain ⟨s1, s2, h1, h2, h3 | ⟨s3, s4, h3, h4, h5⟩⟩ := frame_eq_terminated.1 h
    · exact (turretStep_keeps h1).1.trans <| (oscillate_keeps _).1.trans <| (rangeStep_keeps h2).1.trans
        (goopStep_keeps (.inr h3))
    · exact (turretStep_keeps h1).1.trans <| (oscillate_keeps _).1.trans <| (rangeStep_keeps h2).1.trans <|
        (goopStep_keeps (.inl h3)).trans <| (periodicStep_keeps h4).1.trans <| (tick_keeps _).1.trans
          (exitStep_keeps (.inr h5))

theorem frame_cont_flags {s t : State} (h : frame s = .cont t) : SameFlags s t := by
  obtain ⟨s1, s2, s3, s4, h1, h2, h3, h4, h5⟩ := frame_eq_cont.1 h
  exact (turretStep_keeps h1).2.trans <| (oscillate_keeps _).2.trans <| (rangeStep_keeps h2).2.trans <|
    (goopStep_cont_flags h3).trans <| (periodicStep_keeps h4).2.trans <| (tick_keeps _).2.trans
      (exitStep_cont_flags h5)

theorem frame_terminated_flags {s t : State} (h : frame s = .terminated t) :
    t.active = false ∧ t.term = true ∧ t.reason ≠ .none := by
  obtain ⟨s1, s2, h1, h2, h3 | ⟨s3, s4, h3, h4, h5⟩⟩ := frame_eq_terminated.1 h
  · obtain ⟨a, b, c | c⟩ := goopStep_terminated_flags h3 <;> simp [a, b, c]
  · obtain ⟨a, b, c⟩ := exitStep_terminated_flags h5; simp [a, b, c]

/-- A frame that never completes leaves every register (R134). -/
theorem frame_hang_keeps {s t : State} (h : frame s = .hang t) :
    FrameKeeps s t ∧ SameFlags s t ∧ t = s.withRequestsOf t := by
  obtain ⟨u, -, rfl⟩ := frame_eq_hang.1 h
  exact ⟨by simp [FrameKeeps], by simp [SameFlags], rfl⟩

/-! ### The frames of RUN -/

/-- What every frame of an active trial keeps, holds after any number of frames; frames that were not enough leave the
trial active, and a frame that never completes was met in an active trial. -/
theorem runFrames_induct (P : State → Prop)
    (hc : ∀ s t, P s → s.active = true → frame s = .cont t → P t)
    (ht : ∀ s t, P s → s.active = true → frame s = .terminated t → P t) (n : Nat) :
    ∀ s, P s → s.active = true →
      (∀ t, runFrames n s = .cont t → P t ∧ t.active = true) ∧ (∀ t, runFrames n s = .terminated t → P t) ∧
        ∀ t, runFrames n s = .hang t → ∃ u, P u ∧ u.active = true ∧ frame u = .hang t := by
  induction n with
  | zero => intro s h ha; simp [runFrames_zero, h, ha]
  | succ n ih =>
    intro s h ha
    rw [runFrames_succ]
    cases e : frame s with
    | cont u => simpa using ih u (hc s u h ha e) (by rw [(frame_cont_flags e).1, ha])
    | terminated u => simpa using ht s u h ha e
    | hang u => simpa using ⟨s, h, ha, e⟩

theorem runFrames_keeps {n : Nat} {s t : State} (ha : s.active = true)
    (h : runFrames n s = .cont t ∨ runFrames n s = .terminated t ∨ runFrames n s = .hang t) : FrameKeeps s t := by
  obtain ⟨h1, h2, h3⟩ := runFrames_induct (FrameKeeps s) (fun _ _ p _ r => p.trans (frame_keeps (.inl r)))
    (fun _ _ p _ r => p.trans (frame_keeps (.inr r))) n s (.refl s) ha
  rcases h with h | h | h
  · exact (h1 t h).1
  · exact h2 t h
  · obtain ⟨u, p, -, e⟩ := h3 t h
    exact p.trans (frame_hang_keeps e).1

theorem runFrames_terminated_flags {n : Nat} {s t : State} (h : runFrames n s = .terminated t) :
    t.active = false ∧ t.term = true ∧ t.reason ≠ .none := by
  induction n generalizing s with
  | zero => simp [runFrames_zero] at h
  | succ n ih =>
    rw [runFrames_succ] at h
    cases e : frame s with
    | cont u => exact ih (by simpa [e] using h)
    | terminated u =>
      simp [e] at h
      exact frame_terminated_flags (h ▸ e)
    | hang u => simp [e] at h

end Sys2Proof.Machine
end

