-- ==== Sys2Proof/Laws/PerInstr.lean ====
section
/-! SUPPORT. Families of statements made constructor by constructor: here the row of each command in the opcode
map. -/

namespace Sys2Proof.Laws

/-- The command's row stands in the opcode map and the command's word carries the
OP of its row (30_encoding.md R70, R73). -/
def RowMatch.Statement (i : Instr) : Prop :=
  i.row ∈ opTable ∧
    ∀ k, k < 4 → (encode i).getLsbD (28 + k) = i.row.pattern.getLsbD (28 + k)

/-- Four bits, one by one. -/
theorem four_bits {P : Nat → Prop} (h0 : P 0) (h1 : P 1) (h2 : P 2) (h3 : P 3) : ∀ k, k < 4 → P k := by
  intro k hk
  obtain rfl | rfl | rfl | rfl : k = 0 ∨ k = 1 ∨ k = 2 ∨ k = 3 := by omega
  exacts [h0, h1, h2, h3]

theorem RowMatch.nop (hint : BitVec 28) : RowMatch.Statement (.nop hint) :=
  ⟨by simp [opTable, Instr.row], by
    apply four_bits <;> (simp only [encode, BitVec.getLsbD_append]; simp [Instr.row])⟩

theorem RowMatch.trigCos (amp angle : Byte) : RowMatch.Statement (.trigCos amp angle) :=
  ⟨by simp [opTable, Instr.row], by
    apply four_bits <;> (simp only [encode, BitVec.getLsbD_append]; simp [Instr.row])⟩

theorem RowMatch.trigSin (amp angle : Byte) : RowMatch.Statement (.trigSin amp angle) :=
  ⟨by simp [opTable, Instr.row], by
    apply four_bits <;> (simp only [encode, BitVec.getLsbD_append]; simp [Instr.row])⟩

theorem RowMatch.start (side : Side) (phase : Byte) (seed : Half) : RowMatch.Statement (.start side phase seed) :=
  ⟨by simp [opTable, Instr.row], by
    apply four_bits <;> (simp only [encode, BitVec.getLsbD_append]; simp [Instr.row])⟩

theorem RowMatch.step : RowMatch.Statement .step :=
  ⟨by simp [opTable, Instr.row], by apply four_bits <;> rfl⟩

theorem RowMatch.run : RowMatch.Statement .run :=
  ⟨by simp [opTable, Instr.row], by apply four_bits <;> rfl⟩

theorem RowMatch.fire (side : Side) (r : Byte) : RowMatch.Statement (.fire side r) :=
  ⟨by simp [opTable, Instr.row], by
    apply four_bits <;> (simp only [encode, BitVec.getLsbD_append]; simp [Instr.row])⟩

theorem RowMatch.clrErr : RowMatch.Statement .clrErr :=
  ⟨by simp [opTable, Instr.row], by apply four_bits <;> rfl⟩

end Sys2Proof.Laws
end

