-- ==== Sys2Proof/Laws/Requests.lean ====
section
/-! SUPPORT. The collaborator under a sequence of requests: appending sequences, and what a state and the one reached
from it by answered requests have in common. -/

namespace Sys2Proof

open Sys2Proof.Machine

theorem rngReply_snd (g : Rng) (q : RngReq) (n : Nat) : (rngReply g q n).2 = sigmaAfter g q n := by
  rcases q with _ | ⟨_, _ | _⟩ | _ <;> rfl

theorem sigmaAfterAll_append (g : Rng) (l m : List RngReq) (n : Nat) :
    sigmaAfterAll g (l ++ m) n = sigmaAfterAll g m (sigmaAfterAll g l n) := by
  induction l generalizing n with
  | nil => rfl
  | cons q l ih => exact ih _

theorem allAnswered_append (g : Rng) (l m : List RngReq) (n : Nat) :
    allAnswered g (l ++ m) n = (allAnswered g l n && allAnswered g m (sigmaAfterAll g l n)) := by
  induction l generalizing n with
  | nil => simp [allAnswered, sigmaAfterAll]
  | cons q l ih => simp [allAnswered, sigmaAfterAll, ih, Bool.and_assoc]

/-- The requests `l` lead from `s` to `t`, each answered, with the same collaborator. -/
def Asked (l : List RngReq) (s t : State) : Prop :=
  t.cfg = s.cfg ∧ t.rngLog = s.rngLog ++ l ∧ allAnswered s.collaborator l s.sigma = true ∧
    t.sigma = sigmaAfterAll s.collaborator l s.sigma

/-- Fields other than these do not matter. -/
theorem Asked.congr {l : List RngReq} {s t s' t' : State} (h : Asked l s t) (h1 : s'.cfg = s.cfg)
    (h2 : s'.rngLog = s.rngLog) (h3 : s'.sigma = s.sigma) (k1 : t'.cfg = t.cfg) (k2 : t'.rngLog = t.rngLog)
    (k3 : t'.sigma = t.sigma) : Asked l s' t' := by
  simpa [Asked, State.collaborator, h1, h2, h3, k1, k2, k3] using h

theorem Asked.nil {s t : State} (h1 : t.cfg = s.cfg) (h2 : t.rngLog = s.rngLog) (h3 : t.sigma = s.sigma) :
    Asked [] s t := by
  simp [Asked, allAnswered, sigmaAfterAll, h1, h2, h3]

theorem Asked.trans {l m : List RngReq} {s t u : State} (h : Asked l s t) (k : Asked m t u) :
    Asked (l ++ m) s u := by
  obtain ⟨h1, h2, h3, h4⟩ := h
  obtain ⟨k1, k2, k3, k4⟩ := k
  have hc : t.collaborator = s.collaborator := by simp [State.collaborator, h1]
  rw [hc, h4] at k3 k4
  exact ⟨k1.trans h1, by simp [k2, h2], by simp [allAnswered_append, h3, k3], by simp [sigmaAfterAll_append, k4]⟩

/-- One answered request. -/
theorem Asked.ask {q : RngReq} {s t : State} {b : Byte} (h : Machine.ask q s = .answered b t) : Asked [q] s t := by
  obtain ⟨ha, -, rfl⟩ := ask_eq_answered.1 h
  simp [Asked, allAnswered, sigmaAfterAll, ha, rngReply_snd, State.issued]

end Sys2Proof
end

