-- ==== Sys2Proof/Tests/TestSet.lean ====
section
/-! SUPPORT. The test parameter set TP, the test RNG TR and the variants of 95_test_vectors.md section 1. They are
test choices of the spec, not values of the hardware; nothing but tests uses them. -/

namespace Sys2Proof.Tests

open Sys2Proof.Machine

/-- Rows 0x00 to 0x70 of the table LUT_TP. -/
def lutHalf : List Byte :=
  [0x00, 0x06, 0x0D, 0x13, 0x19, 0x1F, 0x25, 0x2C, 0x32, 0x38, 0x3E, 0x44, 0x4A, 0x50, 0x56, 0x5C]
    ++ [0x62, 0x67, 0x6D, 0x73, 0x78, 0x7E, 0x83, 0x88, 0x8E, 0x93, 0x98, 0x9D, 0xA2, 0xA7, 0xAB, 0xB0]
    ++ [0xB4, 0xB9, 0xBD, 0xC1, 0xC5, 0xC9, 0xCD, 0xD0, 0xD4, 0xD7, 0xDB, 0xDE, 0xE1, 0xE4, 0xE7, 0xE9]
    ++ [0xEC, 0xEE, 0xF0, 0xF2, 0xF4, 0xF6, 0xF7, 0xF9, 0xFA, 0xFB, 0xFC, 0xFD, 0xFE, 0xFE, 0xFF, 0xFF]
    ++ [0xFF, 0xFF, 0xFF, 0xFE, 0xFE, 0xFD, 0xFC, 0xFB, 0xFA, 0xF9, 0xF7, 0xF6, 0xF4, 0xF2, 0xF0, 0xEE]
    ++ [0xEC, 0xE9, 0xE7, 0xE4, 0xE1, 0xDE, 0xDB, 0xD7, 0xD4, 0xD0, 0xCD, 0xC9, 0xC5, 0xC1, 0xBD, 0xB9]
    ++ [0xB4, 0xB0, 0xAB, 0xA7, 0xA2, 0x9D, 0x98, 0x93, 0x8E, 0x88, 0x83, 0x7E, 0x78, 0x73, 0x6D, 0x67]
    ++ [0x62, 0x5C, 0x56, 0x50, 0x4A, 0x44, 0x3E, 0x38, 0x32, 0x2C, 0x25, 0x1F, 0x19, 0x13, 0x0D, 0x06]

/-- LUT_TP: "Entries 0x80 .. 0xFF repeat entries 0x00 .. 0x7F". -/
def lutTP : Vector Byte 256 := ⟨(lutHalf ++ lutHalf).toArray, by decide +kernel⟩

/-- WINDOW[r] = r AND 0x1F. -/
def windowTP : Vector Byte 256 :=
  ⟨((List.range 256).map fun r => BitVec.ofNat 8 (r % 32)).toArray, by decide +kernel⟩

/-- TP with the test RNG TR, which is `lcg 5 1`. -/
def tp : Params where
  sinLut := lutTP
  signSrc := .shifted
  oscAmp := 0x10
  yBase := 0x0100
  angleInit := 0x00
  spawnX := ⟨0x0010, 0x0050⟩
  dir := ⟨.plus, .minus⟩
  exitX := ⟨0x0070, 0x0030⟩
  aggroX := 0x0018
  spawnDx := ⟨0x0010, -0x0010⟩
  spawnDy := 0x0008
  baseAngle := ⟨0x20, 0x60⟩
  window := windowTP
  projSpeed := 0x04
  fieldBound := 0x200
  hbX := 0x0008
  hbY := 0x0010
  turretKind := .roll
  armKind := .roll
  fireKind := .roll
  periodKind := .roll
  rng := .lcg 5 1
  blockBase := 0

/-- TP-G: EXIT_X[RIGHT] = -0x0400 and HB_X = 0. -/
def tpG : Params := { tp with exitX := ⟨0x0070, -0x0400⟩, hbX := 0 }

/-- The block after reset, built with the parameters `p`, the collaborator in state 0. -/
def resetWith (p : Params) : State := { State.reset with cfg := p, sigma := 0 }

/-- The state of a next outcome; any other outcome gives the given state back. -/
def nextOr (s : State) : Host.Outcome State Fault Refusal → State
  | .next t => t
  | .fault _ => s
  | .refused _ => s

/-- One command run from a state, as the engine runs it. -/
def after (i : Instr) (s : State) : State := nextOr s (exec i s)

end Sys2Proof.Tests
end

