-- ==== Sys2Proof/Tests/Slice0.lean ====
section
/-! SUPPORT. The model's own tests: ill-formed terms, words written out from the encodings, one or two vectors of
95_test_vectors.md a command, host accesses; then, for every statement with hypotheses, a state and operands that meet
all of them (`witness_…`). Expected values come from the spec's vectors and examples, named beside each test. -/

section

set_option Elab.async false

namespace Sys2Proof.Tests

open Sys2Proof.Machine

/-! ### Ill-formed terms -/

theorem test_smoke_amp : (AsmCmd.trigCos 256 0).fits = false ∧ assemble (.trigCos 256 0) = none := by decide

theorem test_smoke_angle : (AsmCmd.trigSin 0 256).fits = false ∧ assemble (.trigSin 0 256) = none := by decide

theorem test_smoke_side : (AsmCmd.start 2 0 0).fits = false ∧ (AsmCmd.fire 2 0).fits = false := by decide

theorem test_smoke_phase_seed : (AsmCmd.start 0 256 0).fits = false ∧ (AsmCmd.start 0 0 65536).fits = false := by decide

theorem test_smoke_fire_r : (AsmCmd.fire 0 256).fits = false ∧ assemble (.fire 0 256) = none := by decide

theorem test_smoke_hint : (AsmCmd.nopH 0x10000000).fits = false ∧ assemble (.nopH 0x10000000) = none := by decide

/-- A program with an operand that does not fit has no event list (R79). -/
theorem test_smoke_program : programEvents 0 [.exec .run, .cmd (.fire 2 0)] = none := by decide

/-- A width of 8 bits, an address below and beyond the sixteen slots, an offset of 2 (R51). -/
theorem test_smoke_access :
    Access.wf 0x100 ⟨0x100, 8, .read⟩ = false ∧ Access.wf 0x100 ⟨0xFC, 32, .read⟩ = false ∧
    Access.wf 0x100 ⟨0x140, 32, .read⟩ = false ∧ Access.wf 0x100 ⟨0x102, 32, .write 0⟩ = false := by decide

theorem test_smoke_access_refused :
    decodeAccess 0x100 ⟨0x100, 8, .read⟩ = .error .width ∧ decodeAccess 0x100 ⟨0xFC, 32, .read⟩ = .error .outside ∧
    decodeAccess 0x100 ⟨0x140, 32, .read⟩ = .error .outside ∧
    decodeAccess 0x100 ⟨0x102, 32, .write 0⟩ = .error .misaligned := ⟨rfl, rfl, rfl, rfl⟩

/-- D48: FIELD_BOUND out of range, an exit behind the spawn, an exit whose crossing wraps. -/
theorem test_smoke_params :
    { tp with fieldBound := 0 }.ok = false ∧ { tp with fieldBound := 0x8001 }.ok = false ∧
    { tp with exitX := ⟨0x000F, 0x0030⟩ }.ok = false ∧ { tp with exitX := ⟨0x7FFF, 0x0030⟩ }.ok = false ∧
    { tp with exitX := ⟨0x0070, 0x8000⟩ }.ok = false := by decide +kernel

/-! ### Words written out field by field from R71 -/

/-- FH: OP 0000, 28 hint bits (`nop.h 0x0ABCDEF`, R170). -/
theorem test_decode_nop :
    decode 0b0000_0000101010111100110111101111 = .command (.nop 0x0ABCDEF) := by decide

/-- FA: OP 0001, twelve zeros, AMP 0x20, ANGLE 0x80 (R79's example). -/
theorem test_decode_trigCos :
    decode 0b0001_000000000000_00100000_10000000 = .command (.trigCos 0x20 0x80) := by decide

/-- FA: OP 0010, twelve zeros, AMP 0x01, ANGLE 0x90 (V-T19). -/
theorem test_decode_trigSin :
    decode 0b0010_000000000000_00000001_10010000 = .command (.trigSin 0x01 0x90) := by decide

/-- FS: OP 0011, three zeros, SIDE 1, PHASE 0x88, SEED 0x0000 (R79's example). -/
theorem test_decode_start :
    decode 0b0011_000_1_10001000_0000000000000000 = .command (.start .right 0x88 0x0000) := by decide

/-- FN: OP 0100 and 28 zeros. -/
theorem test_decode_step : decode 0b0100_0000000000000000000000000000 = .command .step := by decide

/-- FN: OP 0101 and 28 zeros. -/
theorem test_decode_run : decode 0b0101_0000000000000000000000000000 = .command .run := by decide

/-- FF: OP 0110, nineteen zeros, SIDE 1, R 0x01 (R159's example). -/
theorem test_decode_fire : decode 0b0110_0000000000000000000_1_00000001 = .command (.fire .right 0x01) := by decide

/-- FN: OP 0111 and 28 zeros. -/
theorem test_decode_clrErr : decode 0b0111_0000000000000000000000000000 = .command .clrErr := by decide

/-- The lowest reserved bit of each format set (R74), and two reserved opcodes (R75). -/
theorem test_decode_illegal :
    decode 0x10010000 = .illegal .reservedBits ∧ decode 0x20010000 = .illegal .reservedBits ∧
    decode 0x32000000 = .illegal .reservedBits ∧ decode 0x40000001 = .illegal .reservedBits ∧
    decode 0x50000001 = .illegal .reservedBits ∧ decode 0x60000200 = .illegal .reservedBits ∧
    decode 0x70000001 = .illegal .reservedBits ∧ decode 0x80000000 = .illegal .reservedOpcode ∧
    decode 0xFFFFFFFF = .illegal .reservedOpcode := by decide

/-- The word 0x317E0001 as four byte lanes, lane 0 first, with a byte after it; three bytes are no word (R52, R77). -/
theorem test_decode_bytes :
    decodeBytes [0x01, 0x00, 0x7E, 0x31, 0xFF] = some (.command (.start .right 0x7E 0x0001), [0xFF]) ∧
    decodeBytes [0x01, 0x00, 0x7E] = none := by decide

theorem test_decodeTableWord :
    decodeTableWord 32 0x60000101 = some (.fire .right 0x01) ∧ decodeTableWord 32 0x60000201 = none := by decide

/-! ### Commands -/

/-- The block with TP, POS = (0x0040, 0x010E) and TARGET = (0x0030, 0x0110) (V-P1). -/
def atTarget (p : Params) : State := { resetWith p with x := 0x0040, y := 0x010E, tx := 0x0030, ty := 0x0110 }

/-- V-T2: the split negation. -/
theorem test_trigCos : (after (.trigCos 0x20 0x80) (resetWith tp)).trigResult = 0xFFE12000 := by decide +kernel

/-- V-T13 with UNSHIFTED: the sign comes from the command's angle. -/
theorem test_trigCos_unshifted :
    (after (.trigCos 0x10 0x60) (resetWith { tp with signSrc := .unshifted })).trigResult = 0x000B4000 := by
  decide +kernel

/-- V-T19: a positive result from a negative half. -/
theorem test_trigSin : (after (.trigSin 0x01 0x90) (resetWith tp)).trigResult = 0x00009E00 := by decide +kernel

/-- V-T10's magnitude by SIN, V-T23: the most negative integer field. -/
theorem test_trigSin_largest : (after (.trigSin 0xFF 0xC0) (resetWith tp)).trigResult = 0xFF02FF00 := by decide +kernel

/-- The state after V-E1. -/
def started : State := after (.start .right 0x7E 0x0001) { resetWith tp with tx := 0x0030, ty := 0x0110 }

/-- V-E1. -/
theorem test_start :
    statusWord started = 0x00000002 ∧ regWord 0x0C started = 0x00000050 ∧ countersWord started = 0x7E001000 ∧
    modeWord started = 0x00000001 ∧ started.sigma = 1 := by decide +kernel

/-- V-E2: one quiet frame. -/
theorem test_step :
    regWord 0x0C (after .step started) = 0x010F004F ∧ countersWord (after .step started) = 0x7F001001 ∧
    (after .step started).sigma = 6 ∧ (after .step started).rngLog = [.seed 1, .advance] := by decide +kernel

/-- V-E3's frame 3 from its frame 2: TURRET and PERIODIC are drawn, in this order, before ADVANCE. -/
theorem test_step_draws :
    let s := { started with x := 0x004E, y := 0x010F, angle := 2, gt := 0x80, sigma := 0x001F, rngLog := [] }
    (after .step s).rngLog = [.draw .turret .roll, .draw .periodic .roll, .advance] ∧
    (after .step s).sigma = 0x0F42 := by decide +kernel

/-- V-E3, program P3: RUN ends in frame 17 with HIT. -/
theorem test_run_hit :
    statusWord (after .run started) = 0x0000001C ∧ regWord 0x0C (after .run started) = 0x010E0040 ∧
    countersWord (after .run started) = 0x8E000F10 ∧ lastFireWord (after .run started) = 0x00030161 ∧
    (after .run started).sigma = 0x01E7 ∧ (after .run started).rngLog.length = 27 := by decide +kernel

/-- E1 under TP and TR: MISS_EXIT in frame 33. -/
theorem test_run_fixture :
    let t := after .run (after (.start .right 0x88 0x0000) { resetWith tp with tx := 0x00B9, ty := 0x01C9 })
    statusWord t = 0x00000034 ∧ countersWord t = 0xA9001021 ∧ t.sigma = 0x3BE0 ∧ t.rngLog.length = 33 := by
  decide +kernel

/-- V-P1. -/
theorem test_fire :
    lastFireWord (after (.fire .right 0x01) (atTarget tp)) = 0x00070161 ∧
    (after (.fire .right 0x01) (atTarget tp)).fireSteps = 1 := by decide +kernel

/-- V-Z3: with PROJ_SPEED = 0 and no hit at the spawn point FIRE never completes. Every step leaves the projectile
where it is, in the field and no hit. -/
theorem test_fire_never_ends :
    let p := { tp with projSpeed := 0 }
    velocityX p 0x61 = 0 ∧ velocityY p 0x61 = 0 ∧ flightAngle p .right 0x01 = 0x61 ∧
    inFieldAt p 0x0040 0x010E .right 0x01 0 = true ∧ hitAt p 0x0040 0x010E .right 0x0100 0x0100 0x01 0 = false := by decide +kernel

/-- R170's example: a NOP leaves STATUS unchanged. -/
theorem test_nop : statusWord (after (.nop 0x0ABCDEF) { resetWith tp with err := .locked }) = 0x00000400 := by
  decide +kernel

/-- R171's example. -/
theorem test_clrErr :
    statusWord { resetWith tp with err := .illegalCmd } = 0x00000100 ∧
    statusWord (after .clrErr { resetWith tp with err := .illegalCmd }) = 0x00000000 := by decide +kernel

/-! ### The host's accesses and Reset() -/

/-- The block with TP and these events pending. -/
def offered (es : List Event) : State := { resetWith tp with events := es }

/-- A step of the block. -/
def stepped (s : State) : State := nextOr s (step s)

/-- R74's example 0x10010000 raises ILLEGAL_CMD; STEP after reset raises NOT_ACTIVE (R135). -/
theorem test_cmd_errors :
    statusWord (stepped (offered [cmdWrite 0 0x10010000])) = 0x00000100 ∧
    statusWord (stepped (offered [cmdWrite 0 0x40000000])) = 0x00000200 := by decide +kernel

/-- A CMD write while BUSY = 1: BUSY_OVERRUN, and the running command stays (R178). -/
theorem test_busy_overrun :
    statusWord (stepped { offered [cmdWrite 0 0x80000000] with eng := .exec (.nop 0) }) = 0x00000301 ∧
    (stepped { offered [cmdWrite 0 0x80000000] with eng := .exec (.nop 0) }).eng = .exec (.nop 0) := by decide +kernel

/-- A TARGET write during a trial: LOCKED (R177); before it, R174's example. -/
theorem test_target :
    statusWord (stepped { offered [wrEvent 0 .target 0x01C900B9] with active := true }) = 0x00000402 ∧
    (stepped (offered [wrEvent 0 .target 0x01C900B9])).tx = 0x00B9 ∧
    (stepped (offered [wrEvent 0 .target 0x01C900B9])).ty = 0x01C9 := by decide +kernel

/-- `settarget 0x00B9, 0x01C9` and a negative `setpos` write the words of R80. -/
theorem test_program_words :
    programEvents 0 [.setTarget 0x00B9 0x01C9, .setPos (-1) 2] =
      some [wrEvent 0 .target 0x01C900B9, wrEvent 0 .pos 0x0002FFFF] := by decide +kernel

/-- R79's two examples as they are written, and an operand that is no number. -/
theorem test_parse :
    (parseCommand "start" [['r', 'i', 'g', 'h', 't'], ['0', 'x', '8', '8'], ['0']]).bind assemble = some 0x31880000 ∧
    (parseCommand "trig.cos" [['3', '2'], ['0', 'x', '8', '0']]).bind assemble = some 0x10002080 ∧
    parseCommand "trig.cos" [['x'], ['1']] = none ∧ parseCommand "step" [['1']] = none := by decide +kernel

/-- A word placed by `withFetchWord` runs in the very next step. -/
theorem test_withFetchWord :
    (stepped ((resetWith tp).withFetchWord 32 0x10002080)).trigResult = 0xFFE12000 := by decide +kernel

/-- Reset() during a trial and a running command clears STATUS and COUNTERS and keeps TP (R221, R223). -/
theorem test_reset_event :
    let t := stepped { started with eng := .exec .run, events := [.reset] }
    statusWord t = 0 ∧ countersWord t = 0 ∧ regWord 0x10 t = 0 ∧ t.cfg = tp := by decide +kernel

/-! ### Witnesses

Each theorem below shows a state and operands that meet all the hypotheses of the statement it names together, clause
by clause where the statement has clauses. -/

/-- The outcome of a command is the state `after` gives. -/
theorem exec_after (i : Instr) (s : State) : exec i s = .next (after i s) := by cases i <;> rfl

theorem witness_LegalWordIsTheEncodingOfItsCommand : decode 0x600001FF = .command (.fire .right 0xFF) := by decide

theorem witness_OpcodeMapSelectsExactlyTheDecodedRow :
    decode 0x10002080 = .command (.trigCos 0x20 0x80) ∧ Instr.row (.trigCos 0x20 0x80) ∈ opTable ∧
    (Instr.row (.trigCos 0x20 0x80)).selects 0x10002080 = true := by decide

theorem witness_EveryHintWordExecutesAsNop : (0x0FFFFFFF : Word).extractLsb 31 28 = 0 := by decide

/-- The largest operands of each line. -/
theorem witness_AssemblerPlacesOperandsOrRefuses :
    assemble (.trigCos 255 255) = some 0x1000FFFF ∧ assemble (.trigSin 255 255) = some 0x2000FFFF ∧
    assemble (.start 1 255 65535) = some 0x31FFFFFF ∧ assemble (.fire 1 255) = some 0x600001FF ∧
    assemble (.nopH 0x0FFFFFFF) = some 0x0FFFFFFF := by decide

theorem witness_EngineMoveRunsTheCommandInEng :
    (offered [] : State).events = [] ∧ { offered [.engine] with eng := .exec .clrErr }.events = .engine :: [] ∧
    { offered [.wait] with eng := .exec .clrErr }.events = .wait :: [] ∧
    { offered [.wait] with eng := .exec .clrErr }.eng = .exec .clrErr := by decide +kernel

theorem witness_DecodedWordRunsItsCommand :
    let s := { offered [cmdWrite 0 0x40000000, .engine] with active := true }
    decode 0x40000000 = .command .step ∧ s.events = cmdWrite s.cfg.blockBase 0x40000000 :: .engine :: [] ∧
    s.eng = .idle ∧ (needsTrial .step = true → s.active = true) := by decide +kernel

theorem witness_IdleBlockKeepsAllState :
    (offered [] : State).eng = .idle ∧ (offered [.engine]).events = .engine :: [] ∧
    (offered [.wait]).events = .wait :: [] := by decide +kernel

/-- The last register of the three, refused in each of the four ways. -/
theorem witness_HostWriteErrorsFollowThePriority :
    { offered [wrEvent 0 .target 0] with eng := .exec (.nop 0) }.busy = true ∧
    ((offered [cmdWrite 0 0x80000000]).busy = false ∧ decode 0x80000000 = .illegal .reservedOpcode) ∧
    ((offered [cmdWrite 0 0x50000000]).active = false ∧ decode 0x50000000 = .command .run) ∧
    ({ offered [wrEvent 0 .target 0] with active := true }.busy = false ∧
      { offered [wrEvent 0 .target 0] with active := true }.events = .access ⟨0 + 0x10, 32, .write 0⟩ :: []) := by
  decide +kernel

/-- Every clause at its lowest reserved bit, and the first and last reserved opcode. -/
theorem witness_IllegalWordsRaiseIllegalCmd :
    (offered [cmdWrite 0 0x80000000]).busy = false ∧
    8 ≤ ((0x80000000 : Word).extractLsb 31 28).toNat ∧ 8 ≤ ((0xF0000000 : Word).extractLsb 31 28).toNat ∧
    (0x10010000 : Word).extractLsb 27 16 ≠ 0 ∧ (0x28000000 : Word).extractLsb 27 16 ≠ 0 ∧
    (0x32000000 : Word).extractLsb 27 25 ≠ 0 ∧ (0x40000001 : Word).extractLsb 27 0 ≠ 0 ∧
    (0x60000200 : Word).extractLsb 27 9 ≠ 0 := by decide +kernel

theorem witness_ErrcodeClearsOnlyByClrerrOrReset :
    let s := { offered [] with err := .locked, eng := .exec .clrErr }
    s.err ≠ .none ∧ step s = .next (stepped s) ∧ (stepped s).err = .none := ⟨by decide +kernel, rfl, by decide +kernel⟩

/-- A state in which nothing has run is safe. -/
theorem safe_offered (es : List Event) : Safe (offered es) where
  counter := by change (0 : Byte).toNat ≤ 16; decide
  counterLive := fun h => by cases h
  timer := by change (0 : Byte).toNat ≤ 7; decide
  notBoth := fun h => by cases h
  reasonTerm := ⟨fun _ => rfl, fun _ => rfl⟩
  inFlight := fun _ h => by rcases h with h | h <;> cases h
  noRecord := fun _ => ⟨by change lastFireWord (resetWith tp) = 0; decide +kernel, rfl⟩
  steps := fun h => by cases h
  trigLow := by change (0 : Word).extractLsb 7 0 = 0; decide

theorem witness_ErrorsHaveOnlyTheListedCauses :
    let s := offered [cmdWrite 0 0x80000000]
    Safe s ∧ s.err = .none ∧ step s = .next (stepped s) ∧ (stepped s).err ≠ .none :=
  ⟨safe_offered _, rfl, rfl, by decide +kernel⟩

theorem witness_PosAndTargetWritesFollowTheirRules :
    let p := wrEvent 0 .pos 0xFFFFFFFF
    let t := wrEvent 0 .target 0x80007FFF
    (offered [p]).events = .access ⟨(offered [p]).cfg.blockBase + 0x0C, 32, .write 0xFFFFFFFF⟩ :: [] ∧
    (offered [t]).events = .access ⟨(offered [t]).cfg.blockBase + 0x10, 32, .write 0x80007FFF⟩ :: [] ∧
    (offered [p]).busy = false ∧ (offered [p]).active = false ∧
    { offered [p] with eng := .exec .run, active := true }.busy = true ∧
    { offered [t] with active := true }.busy = false ∧ { offered [t] with active := true }.active = true := by
  decide +kernel

/-- STATUS, and the last reserved offset. -/
theorem witness_ReadOnlyWritesAreIgnored :
    let e (off : Nat) : Event := .access ⟨(resetWith tp).cfg.blockBase + off, 32, .write 0xFFFFFFFF⟩
    (offered [e 0x04]).events = e 0x04 :: [] ∧ (offered [e 0x3C]).events = e 0x3C :: [] ∧
    0x3C < 0x40 ∧ 0x3C % 4 = 0 := by decide +kernel

/-- CMD, the first and the last reserved offset, and STATUS. -/
theorem witness_StatusReadsExactlyEvenWhileBusy :
    let e (off : Nat) : Event := .access ⟨(resetWith tp).cfg.blockBase + off, 32, .read⟩
    (offered [e 0x00]).events = e 0x00 :: [] ∧ (offered [e 0x04]).events = e 0x04 :: [] ∧
    (offered [e 0x24]).events = e 0x24 :: [] ∧ (offered [e 0x3C]).events = e 0x3C :: [] ∧
    0x24 < 0x40 ∧ 0x24 % 4 = 0 ∧ 0x3C < 0x40 ∧ 0x3C % 4 = 0 := by decide +kernel

/-- The first and the last result register. -/
theorem witness_ResultRegistersReadTheirFieldsWhenIdle :
    (offered [rdEvent 0 .trigResult]).events = .access ⟨0 + 0x08, 32, .read⟩ :: [] ∧
    (offered [rdEvent 0 .fireSteps]).events = .access ⟨0 + 0x20, 32, .read⟩ :: [] ∧
    (offered [rdEvent 0 .fireSteps]).busy = false ∧ 0x20 < 0x40 ∧ 0x20 % 4 = 0 := by decide +kernel

theorem witness_BusyReadsReturnAFreeValue :
    let s := { offered [rdEvent 0 .fireSteps] with eng := .exec (.nop 0) }
    s.events = .access ⟨s.cfg.blockBase + 0x20, 32, .read⟩ :: [] ∧ s.busy = true ∧ 0x20 % 4 = 0 ∧ 0x08 ≤ 0x20 := by
  decide +kernel

theorem witness_OnlyInexpressibleAccessesStopTheMachine :
    (offered [.access ⟨0x3C, 32, .read⟩]).events = .access ⟨0x3C, 32, .read⟩ :: [] ∧
    Access.wf 0 ⟨0x3C, 32, .read⟩ = true ∧ Access.wf 0 ⟨0x40, 32, .read⟩ = false := by decide +kernel

theorem witness_ResetEventClearsEveryRegister :
    { offered [.reset] with eng := .exec .run }.events = .reset :: [] ∧ (offered [.reset]).busy = false := by
  decide +kernel

theorem witness_ParametersNeverChange : step (offered [.reset]) = .next (stepped (offered [.reset])) := rfl

theorem witness_TargetIsLockedDuringATrial :
    let s := offered [wrEvent 0 .target 0x00010000]
    step s = .next (stepped s) ∧ (stepped s).ty ≠ s.ty := ⟨rfl, by decide +kernel⟩

theorem witness_InRangeStaysSetUntilStart :
    let s := { offered [] with inRange := true, eng := .exec (.start .left 0 0) }
    step s = .next (stepped s) ∧ s.inRange = true ∧ (stepped s).inRange = false :=
  ⟨rfl, rfl, by decide +kernel⟩

theorem witness_OnlyTrialCommandsIssueRequests :
    let s := { started with eng := .exec .step }
    step s = .next (stepped s) ∧ (stepped s).rngLog ≠ s.rngLog := ⟨rfl, by decide +kernel⟩

theorem witness_EveryStepKeepsTheInvariant :
    let s := offered [cmdWrite 0 0x10002080]
    Safe s ∧ step s = .next (stepped s) := ⟨safe_offered _, rfl⟩

/-- V-T2 (a fraction) and V-T26's operands with UNSHIFTED (none). -/
theorem witness_SplitNegationIsOneAboveTheTrueNegation :
    negates tp .cos 0x80 = true ∧ lowByte (product tp .cos 0x20 0x80) ≠ 0 ∧
    negates { tp with signSrc := .unshifted } .cos 0xE0 = true ∧
    lowByte (product { tp with signSrc := .unshifted } .cos 0x40 0xE0) = 0 := by decide +kernel

/-- V-T11. -/
theorem witness_SplitNegationOfAFractionIsPositive :
    negates tp .cos 0x80 = true ∧ highByte (product tp .cos 0x01 0x80) = 0 ∧
    lowByte (product tp .cos 0x01 0x80) ≠ 0 := by decide +kernel

theorem witness_TrigResultRange :
    negates tp .cos 0x00 = false ∧ negates tp .cos 0x80 = true := by decide +kernel

theorem witness_SignSourcesDifferExactlyForCosineWithBitSix : tp.signSrc = .shifted := rfl

theorem witness_StartGivesTheInitialEncounterState :
    (resetWith tp).collaborator.answers (.seed 1) (resetWith tp).sigma = true ∧
    (resetWith { tp with rng := .mute }).collaborator.answers (.seed 1) 0 = false := by decide +kernel

theorem witness_BookkeepingCommandsDisturbNoTrial :
    exec (.fire .right 0x01) (atTarget tp) = .next (after (.fire .right 0x01) (atTarget tp)) ∧
    (after (.fire .right 0x01) (atTarget tp)).fireSteps ≠ (atTarget tp).fireSteps ∧
    (after .clrErr { atTarget tp with err := .locked }).err ≠ .locked ∧
    (after (.trigSin 0x01 0x90) (atTarget tp)).trigResult ≠ (atTarget tp).trigResult :=
  ⟨exec_after _ _, by decide +kernel, by decide +kernel, by decide +kernel⟩

theorem witness_StepAndRunWithoutATrialAreRefused :
    (offered [cmdWrite 0 0x50000000]).active = false ∧ (offered [cmdWrite 0 0x50000000]).eng = .idle ∧
    (offered [cmdWrite 0 0x50000000]).events =
      cmdWrite (offered [cmdWrite 0 0x50000000]).cfg.blockBase 0x50000000 :: [] := by decide +kernel

theorem conforming_tp (s : State) (h : s.cfg = tp) : Conforming s := fun _ _ => by
  unfold State.collaborator; rw [h]; rfl

/-- Under TP every launch angle moves the projectile. -/
theorem moving_tp : tp.Moving := by unfold Params.Moving; decide +kernel

theorem started_cfg : started.cfg = tp := by decide +kernel

theorem witness_StepCompletesWithAnActiveTrial :
    started.active = true ∧ Conforming started ∧ started.cfg.fieldOk = true ∧ started.cfg.Moving :=
  ⟨by decide +kernel, conforming_tp _ started_cfg, by decide +kernel, started_cfg ▸ moving_tp⟩

/-- V-E3's state before frame 10, the aggro frame. -/
def beforeAggro : State := { started with x := 0x0047, y := 0x010F, angle := 9, gt := 0x87, sigma := 0x5294 }

theorem witness_QuietFrameMovesOrEntersRange :
    (started.active = true ∧ started.inRange = false ∧ started.goopTimer = 0 ∧ started.gt &&& 0x3F ≠ 0 ∧
      started.gt &&& 0x7F ≠ 0 ∧ started.collaborator.answers .advance started.sigma = true ∧
      ¬(started.x.toInt - started.tx.toInt).natAbs < started.cfg.aggroX.toNat ∧
      exitCrossed started.cfg started.side (started.x + dirStep started.cfg started.side) = false) ∧
    (beforeAggro.active = true ∧ beforeAggro.inRange = false ∧ beforeAggro.gt &&& 0x3F ≠ 0 ∧
      beforeAggro.gt &&& 0x7F ≠ 0 ∧ beforeAggro.collaborator.answers .advance beforeAggro.sigma = true ∧
      (beforeAggro.x.toInt - beforeAggro.tx.toInt).natAbs < beforeAggro.cfg.aggroX.toNat ∧
      exitCrossed beforeAggro.cfg beforeAggro.side beforeAggro.x = false) := by decide +kernel

theorem witness_FrameMovesByExactlyOneUnlessItEntersRange :
    (started.active = true ∧ exec .step started = .next (after .step started) ∧ (after .step started).eng = .idle ∧
      (after .step started).inRange = started.inRange) ∧
    (beforeAggro.active = true ∧ exec .step beforeAggro = .next (after .step beforeAggro) ∧
      (after .step beforeAggro).eng = .idle ∧ (after .step beforeAggro).inRange ≠ beforeAggro.inRange) :=
  ⟨⟨by decide +kernel, exec_after _ _, by decide +kernel, by decide +kernel⟩,
    by decide +kernel, exec_after _ _, by decide +kernel, by decide +kernel⟩

theorem witness_FramesLeaveTheRestUnchanged :
    started.active = true ∧ exec .run started = .next (after .run started) :=
  ⟨by decide +kernel, exec_after _ _⟩

/-- V-E3's state before frame 11, in range with no countdown: its ARM byte is 0x10. -/
def beforeArm : State :=
  { started with x := 0x0047, y := 0x010F, angle := 9, gt := 0x88, inRange := true, sigma := 0x9CE5 }

/-- V-E3's state before frame 17, whose projectile hits. -/
def beforeHit : State :=
  { started with x := 0x0041, y := 0x010F, angle := 0x0F, goopTimer := 1, gt := 0x8E, inRange := true, sigma := 0x2909 }

/-- The same with a target that the projectile misses, and that is in range all the same. -/
def beforeMiss : State := { beforeHit with ty := 0x0010 }

/-- The same with one goop left. -/
def beforeLastGoop : State := { beforeHit with goopCounter := 1 }

/-- V-E4's state before frame 34, which crosses the exit. -/
def beforeExit : State :=
  { started with x := 0x0030, y := 0x010B, angle := 0x20, goopCounter := 0x0F, goopTimer := 2, gt := 0x9F,
                 inRange := true, sigma := 0xF569 }

/-- A trial whose collaborator no longer answers. -/
def muted : State := { started with cfg := { tp with rng := .mute } }

/-- The hypotheses that the statements about a completed frame share. -/
def FrameHyps (s : State) : Prop :=
  s.active = true ∧ s.reason = .none ∧ exec .step s = .next (after .step s) ∧ (after .step s).eng = .idle

theorem frameHyps_of (s : State) (h : s.active = true ∧ s.reason = .none ∧ (after .step s).eng = .idle) :
    FrameHyps s := ⟨h.1, h.2.1, exec_after _ _, h.2.2⟩

/-- A frame that goes on, one for each reason of termination without an ADVANCE, and one that hangs. -/
theorem witness_FrameRequestsComeInTheFixedOrder :
    FrameHyps started ∧ FrameHyps beforeHit ∧ (after .step beforeHit).reason = .hit ∧
    FrameHyps beforeLastGoop ∧ (after .step beforeLastGoop).reason = .missGoop ∧
    (muted.active = true ∧ muted.reason = .none ∧ exec .step muted = .next (after .step muted) ∧
      (after .step muted).eng = .hung .step) :=
  ⟨frameHyps_of _ (by decide +kernel), frameHyps_of _ (by decide +kernel), by decide +kernel,
    frameHyps_of _ (by decide +kernel), by decide +kernel, by decide +kernel, by decide +kernel, exec_after _ _,
    by decide +kernel⟩

/-- A frame with no draw, one with ARM, and V-E3's frame 3 with TURRET and PERIODIC. -/
theorem witness_FrameDrawsExactlyWhenTheGatesOpen :
    FrameHyps started ∧ FrameHyps beforeArm ∧
    FrameHyps { started with x := 0x004E, y := 0x010F, angle := 2, gt := 0x80, sigma := 0x001F } :=
  ⟨frameHyps_of _ (by decide +kernel), frameHyps_of _ (by decide +kernel), frameHyps_of _ (by decide +kernel)⟩

/-- V-E3's frame 3: three requests applied in their order take 0x001F to 0x0F42. -/
theorem test_sigmaAfterAll :
    sigmaAfterAll started.collaborator [.draw .turret .roll, .draw .periodic .roll, .advance] 0x001F = 0x0F42 := by
  decide +kernel

theorem witness_TerminationLeavesGtAndDrawsAsStated :
    (FrameHyps beforeLastGoop ∧ (after .step beforeLastGoop).reason = .missGoop) ∧
    (FrameHyps beforeHit ∧ (after .step beforeHit).reason = .hit) ∧
    (FrameHyps beforeExit ∧ (after .step beforeExit).reason = .missExit) ∧
    (FrameHyps started ∧ (after .step started).reason = .none) ∧
    (FrameHyps beforeMiss ∧ (after .step beforeMiss).reason = .none) ∧
    (timerAtStepFive beforeHit = 1 ∧ beforeHit.goopCounter ≠ 1) ∧
    (timerAtStepFive beforeMiss = 1 ∧ beforeMiss.goopCounter ≠ 1) ∧
    (timerAtStepFive beforeLastGoop = 1 ∧ beforeLastGoop.goopCounter = 1) ∧ timerAtStepFive started ≠ 1 :=
  ⟨⟨frameHyps_of _ (by decide +kernel), by decide +kernel⟩, ⟨frameHyps_of _ (by decide +kernel), by decide +kernel⟩,
    ⟨frameHyps_of _ (by decide +kernel), by decide +kernel⟩, ⟨frameHyps_of _ (by decide +kernel), by decide +kernel⟩,
    ⟨frameHyps_of _ (by decide +kernel), by decide +kernel⟩, by decide +kernel⟩

/-- A RIGHT frame in range whose TURRET draw comes before its ARM draw, and a LEFT one that makes no TURRET draw. -/
def rightTurret : State := { beforeArm with gt := 0x40 }

def leftTurret : State := { beforeArm with side := .left, gt := 0x40 }

/-- An arming byte with no countdown running, another byte with the countdown at 1, and frames with GT[5:0] = 0. -/
theorem witness_ArmRestartsTheCountdown :
    (FrameHyps beforeArm ∧ beforeArm.inRange = true ∧ (armByte beforeArm).toNat % 16 = 0 ∧ beforeArm.goopTimer = 0) ∧
    (FrameHyps beforeHit ∧ beforeHit.inRange = true ∧ (armByte beforeHit).toNat % 16 ≠ 0 ∧ beforeHit.goopTimer = 1) ∧
    (FrameHyps rightTurret ∧ rightTurret.inRange = true ∧ sigmaAtArm rightTurret ≠ rightTurret.sigma) ∧
    (FrameHyps leftTurret ∧ leftTurret.inRange = true ∧ leftTurret.gt.toNat % 64 = 0 ∧
      sigmaAtArm leftTurret = leftTurret.sigma) :=
  ⟨⟨frameHyps_of _ (by decide +kernel), by decide +kernel⟩, ⟨frameHyps_of _ (by decide +kernel), by decide +kernel⟩,
    ⟨frameHyps_of _ (by decide +kernel), by decide +kernel⟩, frameHyps_of _ (by decide +kernel), by decide +kernel⟩

/-- A state of a trial without a projectile record is safe if its counters are in range. -/
theorem safe_of (s : State) (h : s.active = true ∧ s.term = false ∧ s.reason = .none ∧ s.eng = .idle ∧
    s.goopCounter.toNat ≤ 16 ∧ s.goopCounter ≠ 0 ∧ s.goopTimer.toNat ≤ 7 ∧ s.lfValid = false ∧
    lastFireWord s = 0 ∧ s.fireSteps = 0 ∧ s.trigResult.extractLsb 7 0 = 0) : Safe s := by
  obtain ⟨ha, ht, hr, he, h1, h2, h3, hv, hl, hf, htr⟩ := h
  exact ⟨h1, fun _ => h2, h3, fun _ => ht, by simp [hr, ht], fun c hc => by rcases hc with h | h <;> simp [he] at h, fun _ => ⟨hl, hf⟩,
    fun h => by simp [hv] at h, htr⟩

/-- An expiry that fires, one that spends the last goop, a running countdown, and none. -/
theorem witness_GoopCounterCountsExpiries :
    (Safe beforeHit ∧ FrameHyps beforeHit ∧ timerAtStepFive beforeHit = 1 ∧ (after .step beforeHit).goopCounter ≠ 0) ∧
    (Safe beforeLastGoop ∧ FrameHyps beforeLastGoop ∧ timerAtStepFive beforeLastGoop = 1 ∧
      (after .step beforeLastGoop).goopCounter = 0) ∧
    (Safe beforeArm ∧ FrameHyps beforeArm ∧ timerAtStepFive beforeArm = 7) ∧
    (Safe started ∧ FrameHyps started ∧ timerAtStepFive started = 0) :=
  ⟨⟨safe_of _ (by decide +kernel), frameHyps_of _ (by decide +kernel), by decide +kernel⟩,
    ⟨safe_of _ (by decide +kernel), frameHyps_of _ (by decide +kernel), by decide +kernel⟩,
    ⟨safe_of _ (by decide +kernel), frameHyps_of _ (by decide +kernel), by decide +kernel⟩,
    safe_of _ (by decide +kernel), frameHyps_of _ (by decide +kernel), by decide +kernel⟩

/-- A STEP that has hung, with these events pending. -/
def hungStep (es : List Event) : State := { after .step muted with events := es }

/-- A hung STEP makes no move and meets no foreign request that ends it; Reset() ends it (R229, R134). -/
theorem test_hang_ends_only_by_reset :
    (stepped (hungStep [.engine])).eng = .hung .step ∧ (stepped (hungStep [.foreignRng])).eng = .hung .step ∧
    (stepped (hungStep [.reset])).eng = .idle := by decide +kernel

/-- A collaborator that never answers hangs a frame at its last request and another at its first (R134 (b)). -/
theorem test_hang_at_each_end :
    (after .step muted).rngLog = muted.rngLog ++ [.advance] ∧ (after .step muted).eng = .hung .step ∧
    (after .step { muted with gt := 0x80 }).rngLog = muted.rngLog ++ [.draw .turret .roll] ∧
    (after .step { muted with gt := 0x80 }).eng = .hung .step := by decide +kernel

/-- A STEP that hangs, one that completes, and a command that has hung. -/
theorem witness_StepHangsOnlyForTheStatedReasons :
    (muted.active = true ∧ exec .step muted = .next (after .step muted) ∧ (after .step muted).eng ≠ .idle) ∧
    (started.active = true ∧ exec .step started = .next (after .step started) ∧ (after .step started).eng = .idle) ∧
    ((hungStep [.foreignRng]).eng = .hung .step ∧ step (hungStep [.foreignRng]) = .next (stepped (hungStep [.foreignRng]))) :=
  ⟨⟨by decide +kernel, exec_after _ _, by decide +kernel⟩, ⟨by decide +kernel, exec_after _ _, by decide +kernel⟩,
    by decide +kernel, rfl⟩

theorem witness_CompletedRunIsTheSequenceOfSteps :
    started.active = true ∧ exec .run started = .next (after .run started) ∧ (after .run started).eng = .idle :=
  ⟨by decide +kernel, exec_after _ _, by decide +kernel⟩

theorem witness_UncompletedRunInventsNoOutcome :
    muted.active = true ∧ exec .run muted = .next (after .run muted) ∧ (after .run muted).eng = .hung .run :=
  ⟨by decide +kernel, exec_after _ _, by decide +kernel⟩

theorem witness_RunCompletesUnderTheConstraints :
    started.active = true ∧ started.cfg.ok = true ∧ Conforming started ∧ started.cfg.Moving :=
  ⟨by decide +kernel, by decide +kernel, conforming_tp _ started_cfg, started_cfg ▸ moving_tp⟩

theorem witness_TrialTerminatesWithinTheExitDistance :
    let s := offered []
    s.cfg.ok = true ∧ Conforming s ∧ s.cfg.Moving ∧
      exec (.start .right 0x7E 1) s = .next (after (.start .right 0x7E 1) s) :=
  ⟨by decide +kernel, conforming_tp _ rfl, moving_tp, exec_after _ _⟩

/-- With n = 17, the frames of V-E3. -/
theorem witness_TrialFiresAtMostFifteenProjectiles :
    let s := atTarget tp
    let t := after (.start .right 0x7E 1) s
    s.collaborator.answers (.seed 1) s.sigma = true ∧ exec (.start .right 0x7E 1) s = .next t ∧
      ∀ k, k < 17 → (stepsFrom k t).active = true :=
  ⟨by decide +kernel, exec_after _ _, by decide +kernel⟩

theorem witness_PhaseBitSevenHasNoEffect :
    started.collaborator.answers (.seed 0xFFFF) started.sigma = true := by decide +kernel

/-- Two blocks that differ in POS, GOOP_COUNTER and the collaborator's state. -/
theorem witness_TrialIsAFunctionOfItsInputs :
    let s₁ := atTarget tp
    let s₂ := { atTarget tp with x := 0, goopCounter := 3, sigma := 77 }
    let t₁ := after (.start .right 0x7E 1) s₁
    let t₂ := after (.start .right 0x7E 1) s₂
    s₁.cfg = s₂.cfg ∧ s₁.tx = s₂.tx ∧ s₁.ty = s₂.ty ∧ s₁.collaborator.answers (.seed 1) s₁.sigma = true ∧
      s₂.collaborator.answers (.seed 1) s₂.sigma = true ∧ exec (.start .right 0x7E 1) s₁ = .next t₁ ∧
      exec (.start .right 0x7E 1) s₂ = .next t₂ ∧ exec .run t₁ = .next (after .run t₁) ∧
      exec .run t₂ = .next (after .run t₂) :=
  ⟨rfl, rfl, rfl, by decide +kernel, by decide +kernel, exec_after _ _, exec_after _ _, exec_after _ _, exec_after _ _⟩

theorem witness_WriteBeforeOrAfterCompletionEndsTheSame :
    let s := { started with err := .illegalCmd }
    s.err ≠ .none ∧ s.active = true ∧ exec .run s = .next (after .run s) ∧ (after .run s).eng = .idle :=
  ⟨by decide +kernel, by decide +kernel, exec_after _ _, by decide +kernel⟩

theorem witness_FireCompletesAndRecordsTheTest :
    let a := flightAngle tp .right 0x01
    (atTarget tp).cfg.fieldOk = true ∧
      ¬(trig tp .cos tp.projSpeed a = 0 ∧ trig tp .sin tp.projSpeed a = 0) := by decide +kernel

/-- V-P6 (a hit at step 6) and V-P7 (a miss at step 7). -/
theorem witness_FireOutcomeIsTheFirstEndOfTheFlight :
    let s := { resetWith tp with x := 0x01E0, y := 0x0100, tx := 0x0206, ty := 0x0110 }
    let u := { s with tx := 0x0207 }
    (exec (.fire .left 0x03) s = .next (after (.fire .left 0x03) s) ∧ (after (.fire .left 0x03) s).eng = .idle ∧
      (after (.fire .left 0x03) s).fireSteps = 6 ∧ (after (.fire .left 0x03) s).lfHit = true) ∧
    (exec (.fire .left 0x03) u = .next (after (.fire .left 0x03) u) ∧ (after (.fire .left 0x03) u).eng = .idle ∧
      (after (.fire .left 0x03) u).fireSteps = 7 ∧ (after (.fire .left 0x03) u).lfHit = false) :=
  ⟨⟨exec_after _ _, by decide +kernel⟩, exec_after _ _, by decide +kernel⟩

theorem witness_FireHangsExactlyWhenTheTestNeverEnds : (atTarget tp).cfg.fieldOk = true := by decide +kernel

/-- Each clause at its boundary: TX = 0x0207 (V-P7) and 0xFFF8, TY = 0x020F and 0xFFF0, HB_X = 0 (TP-G), HB_Y = 0. -/
theorem witness_TargetOutsideTheFieldIsNeverHit :
    ((tp.fieldBound : Int) - 1 + tp.hbX.toNat ≤ (0x0207 : Half).toInt) ∧
    ((0xFFF8 : Half).toInt ≤ -(tp.hbX.toNat : Int)) ∧
    ((tp.fieldBound : Int) - 1 + tp.hbY.toNat ≤ (0x020F : Half).toInt) ∧
    ((0xFFF0 : Half).toInt ≤ -(tp.hbY.toNat : Int)) ∧ tpG.hbX = 0 ∧ { tp with hbY := 0 }.hbY = 0 ∧
    tp.fieldOk = true ∧
    (exec (.fire .left 0x03) { atTarget tp with tx := 0x0207 } =
      .next (after (.fire .left 0x03) { atTarget tp with tx := 0x0207 }) ∧
      (after (.fire .left 0x03) { atTarget tp with tx := 0x0207 }).eng = .idle) ∧
    (exec .step { beforeHit with tx := 0xFFF8 } = .next (after .step { beforeHit with tx := 0xFFF8 }) ∧
      beforeHit.reason ≠ .hit) :=
  ⟨by decide +kernel, by decide +kernel, by decide +kernel, by decide +kernel, by decide +kernel, by decide +kernel,
    by decide +kernel, ⟨exec_after _ _, by decide +kernel⟩, exec_after _ _, by decide +kernel⟩

end Sys2Proof.Tests

end
end

/-! SUPPORT. One rule per branch of the step and of the engine's move (00_scope.md R5, R6), and O7 from them. -/

namespace Sys2Proof.Machine

/-! ### The engine's move -/

theorem runEngine_of_exec {s : State} {c : Instr} (h : s.eng = .exec c) : runEngine s = exec c s := by
  simp only [runEngine, h]

/-! ### The step, by the next event -/

theorem step_of_no_event {s : State} (h : s.events = []) : step s = runEngine s := by
  simp only [step, serve, h]

theorem step_of_engine {s : State} {rest : List Event} (h : s.events = .engine :: rest) :
    step s = runEngine (s.withEvents rest) := by
  simp only [step, serve, h]

theorem step_of_wait {s : State} {rest : List Event} (h : s.events = .wait :: rest) : step s = poll rest s := by
  simp only [step, serve, h]

/-- A poll of a busy block stays on the list and the engine moves (R80, R173). -/
theorem poll_of_busy {s : State} (rest : List Event) (h : s.busy = true) : poll rest s = runEngine s := by
  simp only [poll, h, if_true]

end Sys2Proof.Machine

namespace Sys2Proof

open Sys2Proof.Machine

/-- Settles O7: in all three cases the engine moves, at a poll because ENG = EXEC(c) makes the block busy, and
the engine's move is `exec` of the command in ENG, which taking the event off the list leaves in place. -/
theorem engineMoveRunsTheCommandInEng : Obligations.EngineMoveRunsTheCommandInEng := by
  intro s c rest heng
  refine ⟨fun hev => ?_, fun hev => ?_, fun hev => ?_⟩
  · rw [step_of_no_event hev, runEngine_of_exec heng]
  · have hkept : (s.withEvents rest).eng = .exec c := heng
    rw [step_of_engine hev, runEngine_of_exec hkept, State.withEvents]
  · have hbusy : s.busy = true := by simp [heng]
    rw [step_of_wait hev, poll_of_busy rest hbusy, runEngine_of_exec heng]

end Sys2Proof

/-! SUPPORT. The invariant Safe (10_state.md R48, R23, R24, R31, R32, R37, R38, R172; 40_trig.md R104) over every
operation of the block: one rule per update of the state, then the steps of a frame, the commands, the host's accesses
and the step; O26 and O27 from them. -/

namespace Sys2Proof.Machine

/-- A frame that completes, continuing or terminated, passes through steps 1 to 4 and then ends at step 5 or passes
through all its steps (R112, R125). -/
theorem frame_completed {s t : State} (h : frame s = .cont t ∨ frame s = .terminated t) :
    ∃ s1 s2, turretStep s = .cont s1 ∧ rangeStep (oscillate s1) = .cont s2 ∧
      (goopStep s2 = .terminated t ∨ ∃ s3 s4, goopStep s2 = .cont s3 ∧ periodicStep s3 = .cont s4 ∧
        (exitStep (tick s4) = .cont t ∨ exitStep (tick s4) = .terminated t)) := by
  rcases h with h | h
  · obtain ⟨s1, s2, s3, s4, h1, h2, h3, h4, h5⟩ := frame_eq_cont.1 h
    exact ⟨s1, s2, h1, h2, .inr ⟨s3, s4, h3, h4, .inl h5⟩⟩
  · obtain ⟨s1, s2, h1, h2, h3 | ⟨s3, s4, h3, h4, h5⟩⟩ := frame_eq_terminated.1 h
    · exact ⟨s1, s2, h1, h2, .inl h3⟩
    · exact ⟨s1, s2, h1, h2, .inr ⟨s3, s4, h3, h4, .inr h5⟩⟩

end Sys2Proof.Machine

namespace Sys2Proof

open Sys2Proof.Machine

/-! ### The invariant and ENG

A frame that terminates the trial clears ACTIVE while STEP or RUN still stands in ENG, and only completion frees the
engine. So the rules about the parts of a command speak of the registers other than ENG: `SafeRegisters`. -/

/-- The invariant, less what it says of ENG. -/
def SafeRegisters (s : State) : Prop := Safe s.complete

theorem SafeRegisters.of_safe {s : State} (h : Safe s) : SafeRegisters s :=
  { h with inFlight := fun c hc => by simp at hc }

/-- The invariant holds with what it says of ENG: STEP and RUN are there only with ACTIVE = 1 (R172). -/
theorem SafeRegisters.safe {s : State} (h : SafeRegisters s)
    (he : ∀ c, s.eng = .exec c ∨ s.eng = .hung c → needsTrial c = true → s.active = true) : Safe s :=
  { h with inFlight := he }

theorem SafeRegisters.safe_hold {s : State} {c : Instr} (h : SafeRegisters s)
    (hc : needsTrial c = true → s.active = true) : Safe (s.hold c) :=
  { h with inFlight := by simpa using hc }

theorem SafeRegisters.safe_hang {s : State} {c : Instr} (h : SafeRegisters s)
    (hc : needsTrial c = true → s.active = true) : Safe (s.hang c) :=
  { h with inFlight := by simpa using hc }

/-! ### The updates of the state -/

section

variable {s : State}

theorem SafeRegisters.issued (h : SafeRegisters s) (q : RngReq) (n : Nat) : SafeRegisters (s.issued q n) := { h with }

theorem SafeRegisters.withRequestsOf (h : SafeRegisters s) (t : State) : SafeRegisters (s.withRequestsOf t) :=
  { h with }

theorem SafeRegisters.oscillate (h : SafeRegisters s) : SafeRegisters (oscillate s) := { h with }

theorem SafeRegisters.move (h : SafeRegisters s) : SafeRegisters s.move := { h with }

theorem SafeRegisters.tick (h : SafeRegisters s) : SafeRegisters (tick s) := { h with }

theorem SafeRegisters.clearError (h : SafeRegisters s) : SafeRegisters (clearError s) := { h with }

theorem SafeRegisters.approachStep (h : SafeRegisters s) : SafeRegisters (approachStep s) := by
  unfold Machine.approachStep
  split
  · exact { h with }
  · exact h.move

/-- GOOP_DELAY is 7 (R38). -/
theorem SafeRegisters.arm (h : SafeRegisters s) (r : Byte) : SafeRegisters (arm r s) := by
  unfold Machine.arm
  split
  · exact { h with timer := by simp [goopDelay] }
  · exact h

theorem SafeRegisters.countDown (h : SafeRegisters s) (h0 : s.goopTimer ≠ 0) : SafeRegisters s.countDown :=
  { h with
    timer := by
      have := h.timer
      simp only [complete_goopTimer, countDown_goopTimer] at *
      bv_omega }

/-- A counter above 0 may be decremented; in a trial that goes on it must stay above 0 (R37). -/
theorem SafeRegisters.spendGoop (h : SafeRegisters s) (h0 : s.goopCounter ≠ 0)
    (hl : s.active = true → s.goopCounter - 1 ≠ 0) : SafeRegisters s.spendGoop :=
  { h with
    counter := by
      have := h.counter
      simp only [complete_goopCounter, spendGoop_goopCounter] at *
      bv_omega
    counterLive := hl }

theorem SafeRegisters.terminate (h : SafeRegisters s) {r : Reason} (hr : r ≠ .none) : SafeRegisters (s.terminate r) :=
  { h with
    counterLive := fun ha => by simp at ha
    notBoth := fun ha => by simp at ha
    reasonTerm := by simpa using hr
    inFlight := fun c hc => by simp at hc }

/-- FIRE_STEPS of a completed test is in 1 .. 2^31 + 1 (R32, R160). -/
theorem SafeRegisters.recordFire (h : SafeRegisters s) (src : FireSrc) (hit : Bool) (r a : Byte) {n : Nat}
    (hn : 1 ≤ n ∧ n ≤ flightBound) : SafeRegisters (s.recordFire src hit r a n) :=
  { h with
    noRecord := fun hv => by simp at hv
    steps := fun _ => by
      unfold flightBound at hn
      simp only [complete_fireSteps, recordFire_fireSteps, BitVec.toNat_ofNat]
      omega }

/-- A result of the trig unit has its low byte 0 (R104). -/
theorem SafeRegisters.setTrig (h : SafeRegisters s) {w : Word} (hw : w.extractLsb 7 0 = 0) :
    SafeRegisters (s.setTrig w) :=
  { h with trigLow := hw }

theorem SafeRegisters.raiseError (h : SafeRegisters s) (e : Err) : SafeRegisters (raiseError e s) := by
  unfold Machine.raiseError
  split
  · exact { h with }
  · exact h

/-- START sets every register that the invariant speaks of but TRIG_RESULT (R110). -/
theorem SafeRegisters.startTrial (h : SafeRegisters s) (side : Side) (phase : Byte) :
    SafeRegisters (startTrial side phase s) where
  counter := by simp [goopInit]
  counterLive := fun _ => by simp [goopInit]
  timer := by simp
  notBoth := fun _ => rfl
  reasonTerm := by simp
  inFlight := fun c hc => by simp at hc
  noRecord := fun _ => ⟨by simp [lastFireWord, FireSrc.bit], rfl⟩
  steps := fun hv => by simp at hv
  trigLow := h.trigLow

end

/-! ### The steps of a frame -/

section

variable {s t : State}

theorem turretStep_keeps_safeRegisters (h : SafeRegisters s) (e : turretStep s = .cont t) : SafeRegisters t := by
  rcases turretStep_cases s with ⟨_, e'⟩ | ⟨_, _, e'⟩ | ⟨_, _, e'⟩ <;> rw [e'] at e <;> cases e
  · exact h
  · exact h.issued _ _

theorem rangeStep_keeps_safeRegisters (h : SafeRegisters s) (e : rangeStep s = .cont t) : SafeRegisters t := by
  rcases rangeStep_cases s with ⟨_, e'⟩ | ⟨_, _, e'⟩ | ⟨_, _, e'⟩ <;> rw [e'] at e <;> cases e
  · exact h.approachStep
  · exact ((h.issued _ _).arm _).move

theorem fireProjectile_keeps_safeRegisters (h : SafeRegisters s)
    (e : fireProjectile s = .hit t ∨ fireProjectile s = .miss t) : SafeRegisters t := by
  rcases fireProjectile_cases s with ⟨_, e'⟩ | ⟨_, _, e'⟩ | ⟨_, n, hp, e'⟩ | ⟨_, n, hp, e'⟩ <;> rw [e'] at e <;>
    simp at e <;> subst e
  · exact (h.issued _ _).recordFire _ _ _ _ (proj_steps hp)
  · exact (h.issued _ _).recordFire _ _ _ _ (proj_steps hp)

theorem shoot_keeps_safeRegisters (h : SafeRegisters s) (e : shoot s = .cont t ∨ shoot s = .terminated t) :
    SafeRegisters t := by
  rcases shoot_cases s with ⟨u, _, e'⟩ | ⟨u, hu, e'⟩ | ⟨u, hu, e'⟩ <;> rw [e'] at e <;> simp at e <;> subst e
  · exact (fireProjectile_keeps_safeRegisters h (.inl hu)).terminate (by simp)
  · exact fireProjectile_keeps_safeRegisters h (.inr hu)

/-- Step 5 is the one that spends a goop, in a trial and so from a counter above 0. -/
theorem goopStep_keeps_safeRegisters (h : SafeRegisters s) (ha : s.active = true)
    (e : goopStep s = .cont t ∨ goopStep s = .terminated t) : SafeRegisters t := by
  have hc : s.goopCounter ≠ 0 := h.counterLive ha
  rcases goopStep_cases s with ⟨_, e'⟩ | ⟨ht, _, e'⟩ | ⟨ht, hl, e'⟩ | ⟨ht, hl, e'⟩ <;> rw [e'] at e
  · simp at e; subst e
    exact h
  · simp at e; subst e
    exact h.countDown ht
  · simp at e; subst e
    have ht0 : s.goopTimer ≠ 0 := by bv_omega
    exact ((h.countDown ht0).terminate (r := .missGoop) (by simp)).spendGoop hc (fun hf => by simp at hf)
  · have ht0 : s.goopTimer ≠ 0 := by bv_omega
    exact shoot_keeps_safeRegisters ((h.countDown ht0).spendGoop hc fun _ => hl) e

theorem periodicStep_keeps_safeRegisters (h : SafeRegisters s) (e : periodicStep s = .cont t) : SafeRegisters t := by
  rcases periodicStep_cases s with ⟨_, e'⟩ | ⟨_, _, e'⟩ | ⟨_, _, e'⟩ <;> rw [e'] at e <;> cases e
  · exact h
  · exact h.issued _ _

theorem exitStep_keeps_safeRegisters (h : SafeRegisters s) (e : exitStep s = .cont t ∨ exitStep s = .terminated t) :
    SafeRegisters t := by
  rcases exitStep_cases s with ⟨_, e'⟩ | ⟨_, _, e'⟩ | ⟨_, _, e'⟩ <;> rw [e'] at e <;> simp at e <;> subst e
  · exact h.terminate (by simp)
  · exact h.issued _ _

theorem frame_keeps_safeRegisters (h : SafeRegisters s) (ha : s.active = true)
    (e : frame s = .cont t ∨ frame s = .terminated t) : SafeRegisters t := by
  obtain ⟨s1, s2, e1, e2, e3⟩ := frame_completed e
  have h2 : SafeRegisters s2 :=
    rangeStep_keeps_safeRegisters (turretStep_keeps_safeRegisters h e1).oscillate e2
  have ha2 : s2.active = true := by
    rw [(rangeStep_keeps e2).2.1, oscillate_active, (turretStep_keeps e1).2.1, ha]
  rcases e3 with e3 | ⟨s3, s4, e3, e4, e5⟩
  · exact goopStep_keeps_safeRegisters h2 ha2 (.inr e3)
  · have h3 : SafeRegisters s3 := goopStep_keeps_safeRegisters h2 ha2 (.inl e3)
    exact exitStep_keeps_safeRegisters (periodicStep_keeps_safeRegisters h3 e4).tick e5

end

/-! ### The commands -/

theorem lowByte_productFrac (P : Half) : lowByte (productFrac P) = 0 := by
  ext i hi
  simp only [productFrac, lowByte, BitVec.extractLsb, BitVec.getElem_extractLsb', BitVec.getLsbD_append]
  simp [hi]

theorem lowByte_neg16 {v : Half} (h : lowByte v = 0) : lowByte (neg16 v) = 0 := by
  rw [← BitVec.toNat_inj] at *
  simp [lowByte, neg16, BitVec.extractLsb_toNat] at *
  omega

/-- The low byte of a 16.16 value is that of its fractional part (R14). -/
theorem extractLsb_append_eq_lowByte (I F : Half) : (I ++ F : Word).extractLsb 7 0 = lowByte F := by
  ext i hi
  have hlow : i < 16 := by omega
  simp only [lowByte, BitVec.extractLsb, BitVec.getElem_extractLsb', BitVec.getLsbD_append]
  simp [hlow]

/-- "In every result, F[7:0] = 0x00" (R104): the fraction of a product has a low byte 0, and so has its negation. -/
theorem trig_lowByte (p : Params) (k : TrigKind) (amp θ : Byte) : (trig p k amp θ).extractLsb 7 0 = 0 := by
  unfold trig
  dsimp only
  split <;> rw [extractLsb_append_eq_lowByte]
  · exact lowByte_neg16 (lowByte_productFrac _)
  · exact lowByte_productFrac _

section

variable {s t : State}

theorem SafeRegisters.refuseInactive (h : SafeRegisters s) : Safe (refuseInactive s) := h.raiseError _

theorem exec_start_keeps_safe {side : Side} {phase : Byte} {seed : Half} (h : SafeRegisters s)
    (e : exec (.start side phase seed) s = .next t) : Safe t := by
  rcases exec_start_cases side phase seed s with ⟨_, e'⟩ | ⟨_, e'⟩ <;> rw [e'] at e <;> cases e
  · exact (h.issued _ _).startTrial side phase
  · exact (h.issued _ _).safe_hang fun hn => by cases hn

theorem exec_step_keeps_safe (h : SafeRegisters s) (e : exec .step s = .next t) : Safe t := by
  rcases exec_step_cases s with ⟨_, e'⟩ | ⟨ha, u, hu, e'⟩ | ⟨ha, u, hu, e'⟩ | ⟨ha, u, hu, e'⟩ <;> rw [e'] at e <;>
    cases e
  · exact h.refuseInactive
  · exact frame_keeps_safeRegisters h ha (.inl hu)
  · exact frame_keeps_safeRegisters h ha (.inr hu)
  · obtain ⟨v, -, rfl⟩ := frame_eq_hang.1 hu
    exact (h.withRequestsOf v).safe_hang fun _ => ha

theorem exec_run_keeps_safe (h : SafeRegisters s) (e : exec .run s = .next t) : Safe t := by
  have frames := runFrames_induct SafeRegisters
    (fun _ _ p ha hu => frame_keeps_safeRegisters p ha (.inl hu))
    (fun _ _ p ha hu => frame_keeps_safeRegisters p ha (.inr hu)) runFuel s h
  rcases exec_run_cases s with ⟨_, e'⟩ | ⟨ha, u, hu, e'⟩ | ⟨ha, u, hu, e'⟩ | ⟨ha, u, hu, e'⟩ <;> rw [e'] at e <;>
    cases e
  · exact h.refuseInactive
  · obtain ⟨hsafe, hactive⟩ := (frames ha).1 u hu
    exact hsafe.safe_hold fun _ => hactive
  · exact (frames ha).2.1 u hu
  · obtain ⟨v, hsafe, hactive, hv⟩ := (frames ha).2.2 u hu
    obtain ⟨w, -, rfl⟩ := frame_eq_hang.1 hv
    exact (hsafe.withRequestsOf w).safe_hang fun _ => hactive

theorem exec_fire_keeps_safe {side : Side} {r : Byte} (h : SafeRegisters s)
    (e : exec (.fire side r) s = .next t) : Safe t := by
  rcases exec_fire_cases side r s with ⟨hit, n, hp, e'⟩ | ⟨_, e'⟩ <;> rw [e'] at e <;> cases e
  · exact h.recordFire _ _ _ _ (proj_steps hp)
  · exact h.safe_hang fun hn => by cases hn

theorem exec_keeps_safe {i : Instr} (h : SafeRegisters s) (e : exec i s = .next t) : Safe t := by
  cases i with
  | nop hint => cases e; exact h
  | trigCos amp angle => cases e; exact h.setTrig (trig_lowByte _ _ _ _)
  | trigSin amp angle => cases e; exact h.setTrig (trig_lowByte _ _ _ _)
  | start side phase seed => exact exec_start_keeps_safe h e
  | step => exact exec_step_keeps_safe h e
  | run => exact exec_run_keeps_safe h e
  | fire side r => exact exec_fire_keeps_safe h e
  | clrErr => cases e; exact h.clearError

/-! ### The host's accesses, Reset() and the step -/

theorem Safe.withEvents (h : Safe s) (es : List Event) : Safe (s.withEvents es) := { h with }

theorem Safe.raiseError (h : Safe s) (e : Err) : Safe (raiseError e s) :=
  ((SafeRegisters.of_safe h).raiseError e).safe (by simpa using h.inFlight)

theorem Safe.freeSigma (h : Safe s) : Safe (freeSigma s) := { h with }

theorem Safe.hostRead (h : Safe s) (off : Nat) : Safe (hostRead off s) := by
  rcases hostRead_cases off s with ⟨_, _, e⟩ | ⟨_, e⟩ <;> rw [e]
  · exact { h with }
  · exact { h with }

/-- A command is accepted into the engine under the check of R172. -/
theorem Safe.offer (h : Safe s) (w : Word) : Safe (offer w s) := by
  rcases offer_cases w s with ⟨_, e⟩ | ⟨_, _, e⟩ | ⟨_, _, _, e⟩ | ⟨_, c, _, hc, e⟩ <;> rw [e]
  · exact h.raiseError _
  · exact h.raiseError _
  · exact h.raiseError _
  · exact (SafeRegisters.of_safe h).safe_hold hc

theorem Safe.writePos (h : Safe s) (v : Word) : Safe (writePos v s) := by
  rcases writePos_cases v s with ⟨_, e⟩ | ⟨_, _, e⟩ | ⟨_, _, e⟩ <;> rw [e]
  · exact h.raiseError _
  · exact h.raiseError _
  · exact { h with }

theorem Safe.writeTarget (h : Safe s) (v : Word) : Safe (writeTarget v s) := by
  rcases writeTarget_cases v s with ⟨_, e⟩ | ⟨_, _, e⟩ | ⟨_, _, e⟩ <;> rw [e]
  · exact h.raiseError _
  · exact h.raiseError _
  · exact { h with }

theorem Safe.hostWrite (h : Safe s) (off : Nat) (v : Word) : Safe (hostWrite off v s) := by
  rcases hostWrite_cases off v s with ⟨_, e⟩ | ⟨_, e⟩ | ⟨_, e⟩ | ⟨_, _, _, e⟩ <;> rw [e]
  · exact h.offer v
  · exact h.writePos v
  · exact h.writeTarget v
  · exact h

theorem access_keeps_safe {a : Access} (h : Safe s) (e : access a s = .next t) : Safe t := by
  rcases access_cases a s with ⟨⟨why, e'⟩, _⟩ | ⟨_, _, e'⟩ | ⟨v, _, _, e'⟩ <;> rw [e'] at e <;> cases e
  · exact h.hostRead _
  · exact h.hostWrite _ v

/-- The registers that Reset() and power-on clear (R47, R221) satisfy the invariant, whatever else the state holds. -/
theorem safe_clearRegisters (s : State) : Safe (clearRegisters s) where
  counter := by simp [clearRegisters]
  counterLive := fun ha => by cases ha
  timer := by simp [clearRegisters]
  notBoth := fun _ => rfl
  reasonTerm := ⟨fun _ => rfl, fun _ => rfl⟩
  inFlight := fun c hc => by rcases hc with hc | hc <;> cases hc
  noRecord := fun _ => ⟨by simp [lastFireWord, clearRegisters, FireSrc.bit], rfl⟩
  steps := fun hv => by cases hv
  trigLow := by simp [clearRegisters]

theorem safe_resetBlock (s : State) : Safe (resetBlock s) := by
  unfold resetBlock
  split
  · exact (safe_clearRegisters s).freeSigma
  · exact safe_clearRegisters s

theorem runEngine_keeps_safe (h : Safe s) (e : runEngine s = .next t) : Safe t := by
  rcases runEngine_cases s with ⟨_, e'⟩ | ⟨c, _, e'⟩ <;> rw [e'] at e
  · cases e
    exact h
  · exact exec_keeps_safe (.of_safe h) e

end

/-- Settles O26: power-on clears the registers as Reset() does. -/
theorem powerOnStateIsSafe : Obligations.PowerOnStateIsSafe := safe_clearRegisters State.reset

/-- Settles O27: the engine's move by the rules of the commands, an access by those of the host's reads and writes, and
Reset() because it leaves nothing of the old registers. -/
theorem everyStepKeepsTheInvariant : Obligations.EveryStepKeepsTheInvariant := by
  intro s t h e
  rcases step_cases s with ⟨u, hu, e'⟩ | ⟨rest, _, _, e'⟩ | ⟨a, rest, _, e'⟩ | ⟨rest, _, e'⟩ | ⟨rest, _, e'⟩ <;>
    rw [e'] at e
  case inl =>
    have hsafe : Safe u := by
      rcases hu with rfl | ⟨es, rfl⟩
      · exact h
      · exact h.withEvents es
    exact runEngine_keeps_safe hsafe e
  · cases e
    exact (h.withEvents rest).hostRead _
  · exact access_keeps_safe (h.withEvents rest) e
  · cases e
    exact safe_resetBlock _
  · cases e
    exact (h.withEvents rest).freeSigma

end Sys2Proof

/-! SUPPORT. What the host reads (10_state.md R23 to R33; 43_control.md R173): the fields of the register words by their
bits, and a read as one step; O16, O17 and O20 from them. -/

namespace Sys2Proof.Machine

/-! ### The register words, field by field -/

theorem pack_lo (lo hi : Half) : (pack lo hi).extractLsb 15 0 = lo := by
  simp (disch := decide) only [pack, BitVec.extractLsb, BitVec.extractLsb'_append_eq_of_add_le]
  simp

theorem pack_hi (lo hi : Half) : (pack lo hi).extractLsb 31 16 = hi := by
  simp (disch := decide) only [pack, BitVec.extractLsb, BitVec.extractLsb'_append_eq_of_le]
  simp

/-- The flags of STATUS (R23). -/
theorem statusWord_flags (s : State) :
    (statusWord s).getLsbD 0 = s.busy ∧ (statusWord s).getLsbD 1 = s.active ∧ (statusWord s).getLsbD 2 = s.term ∧
      (statusWord s).getLsbD 3 = s.hit := by
  simp only [statusWord, BitVec.getLsbD_append]
  simp

/-- The codes of STATUS and its reserved bits (R23, R24, R191). -/
theorem statusWord_codes (s : State) :
    (statusWord s).extractLsb 5 4 = s.reason.code ∧ (statusWord s).extractLsb 7 6 = 0 ∧
      (statusWord s).extractLsb 11 8 = s.err.code ∧ (statusWord s).extractLsb 31 12 = 0 := by
  simp (disch := decide) only [statusWord, BitVec.extractLsb, BitVec.extractLsb'_append_eq_of_le,
    BitVec.extractLsb'_append_eq_of_add_le]
  simp

theorem countersWord_fields (s : State) :
    (countersWord s).extractLsb 7 0 = s.angle ∧ (countersWord s).extractLsb 15 8 = s.goopCounter ∧
      (countersWord s).extractLsb 23 16 = s.goopTimer ∧ (countersWord s).extractLsb 31 24 = s.gt := by
  simp (disch := decide) only [countersWord, BitVec.extractLsb, BitVec.extractLsb'_append_eq_of_le,
    BitVec.extractLsb'_append_eq_of_add_le]
  simp

theorem modeWord_fields (s : State) :
    ((modeWord s).getLsbD 0 = true ↔ s.side = .right) ∧ (modeWord s).getLsbD 1 = s.inRange ∧
      (modeWord s).extractLsb 31 2 = 0 := by
  simp (disch := decide) only [modeWord, BitVec.extractLsb, BitVec.extractLsb'_append_eq_of_le, BitVec.getLsbD_append]
  cases s.side <;> simp [Side.bit]

theorem lastFireWord_flags (s : State) :
    (lastFireWord s).getLsbD 16 = s.lfHit ∧ (lastFireWord s).getLsbD 17 = s.lfValid ∧
      ((lastFireWord s).getLsbD 18 = true ↔ s.lfSrc = .command) := by
  simp only [lastFireWord, BitVec.getLsbD_append]
  cases s.lfSrc <;> simp [FireSrc.bit]

theorem lastFireWord_bytes (s : State) :
    (lastFireWord s).extractLsb 7 0 = s.lfAngle ∧ (lastFireWord s).extractLsb 15 8 = s.lfR ∧
      (lastFireWord s).extractLsb 31 19 = 0 := by
  simp (disch := decide) only [lastFireWord, BitVec.extractLsb, BitVec.extractLsb'_append_eq_of_le,
    BitVec.extractLsb'_append_eq_of_add_le]
  simp

theorem hit_eq_true_iff (s : State) : s.hit = true ↔ s.reason = .hit := by simp [State.hit]

/-- CMD and the reserved offsets read 0 (R33). -/
theorem regWord_of_reserved {off : Nat} (h : off = 0x00 ∨ 0x24 ≤ off) (s : State) : regWord off s = 0 := by
  rcases h with rfl | h
  · rfl
  · unfold regWord
    split <;> simp_all

theorem regWord_withEvents (off : Nat) (s : State) (es : List Event) : regWord off (s.withEvents es) = regWord off s := by
  unfold regWord
  split <;> rfl

/-! ### A read as a step -/

/-- The access decoder accepts a 32-bit access at the offset of a register (R51). -/
theorem decodeAccess_of_offset {off : Nat} (hlt : off < 0x40) (h4 : off % 4 = 0) (base : Nat) (op : AccessOp) :
    decodeAccess base ⟨base + off, 32, op⟩ = .ok off :=
  decodeAccess_eq_ok.2 ⟨by simp [Access.wf, hlt, h4], by simp⟩

theorem step_of_access {s : State} {a : Access} {rest : List Event} (h : s.events = .access a :: rest) :
    step s = access a (s.withEvents rest) := by
  simp only [step, serve, h]

/-- A read that is exact delivers the register's word and changes nothing else (R173, R226). -/
theorem step_of_exact_read {s : State} {off : Nat} {rest : List Event}
    (hev : s.events = .access ⟨s.cfg.blockBase + off, 32, .read⟩ :: rest) (hlt : off < 0x40) (h4 : off % 4 = 0)
    (hx : s.busy = false ∨ readsExactly off = true) :
    step s = .next { s with events := rest, rdata := regWord off s } := by
  have hread : hostRead off (s.withEvents rest) = { s with events := rest, rdata := regWord off s } := by
    rcases hostRead_cases off (s.withEvents rest) with ⟨hb, hr, -⟩ | ⟨-, e⟩
    · exact absurd hx (by simp_all)
    · rw [e, regWord_withEvents]
      rfl
  rw [step_of_access hev, access, withEvents_cfg, decodeAccess_of_offset hlt h4]
  exact congrArg _ hread

end Sys2Proof.Machine

namespace Sys2Proof

open Sys2Proof.Machine

/-- Settles O16: the offsets named read exactly whatever BUSY is, and the fields of the word are those of
`statusWord`. -/
theorem statusReadsExactlyEvenWhileBusy : Obligations.StatusReadsExactlyEvenWhileBusy := by
  intro s off rest hev hlt h4
  refine ⟨fun hoff => ?_, ?_⟩
  · have hx : readsExactly off = true := by
      rcases hoff with rfl | hoff
      · rfl
      · simp [readsExactly, hoff]
    rw [step_of_exact_read hev hlt h4 (.inr hx), regWord_of_reserved hoff]
  · rintro rfl
    obtain ⟨hbusy, hactive, hterm, hhit⟩ := statusWord_flags s
    obtain ⟨hreason, h76, herr, h31⟩ := statusWord_codes s
    refine ⟨statusWord s, step_of_exact_read hev hlt h4 (.inr rfl), ?_, hactive, hterm, ?_, h76, h31, ?_⟩
    · rw [hbusy, busy_eq_true_iff]
    · rw [hhit, hit_eq_true_iff]
    · rw [hreason, herr]
      refine ⟨?_, ?_, ?_, ?_, ?_, ?_, ?_, ?_, ?_⟩ <;> intro h <;> rw [h] <;> rfl

/-- Settles O17: an idle block delivers the register's word, whose fields are those of the register. -/
theorem resultRegistersReadTheirFieldsWhenIdle : Obligations.ResultRegistersReadTheirFieldsWhenIdle := by
  intro s off rest hev hidle hlt h4
  refine ⟨regWord off s, step_of_exact_read hev hlt h4 (.inl hidle), ?_, ?_, ?_, ?_, ?_, ?_, ?_⟩ <;> rintro rfl
  · rfl
  · exact ⟨pack_lo _ _, pack_hi _ _⟩
  · exact ⟨pack_lo _ _, pack_hi _ _⟩
  · exact countersWord_fields s
  · exact modeWord_fields s
  · obtain ⟨hangle, hr, hreserved⟩ := lastFireWord_bytes s
    obtain ⟨hhit, hvalid, hsrc⟩ := lastFireWord_flags s
    exact ⟨hangle, hr, hhit, hvalid, hsrc, hreserved⟩
  · rfl

/-- Settles O20: every register of R47 is 0 after power-on, and so are the words made of them. -/
theorem powerOnRegisterValues : Obligations.PowerOnRegisterValues := by
  refine ⟨?_, ?_, ?_, ?_, ?_, ?_, ?_, ?_, rfl, rfl, rfl, rfl⟩ <;> decide

end Sys2Proof

/-! SUPPORT. What the commands keep of POS, ANGLE, IN_RANGE, TARGET and the other registers of an encounter
(10_state.md R28, R40, R42, R48; 41_encounter.md R113 to R119): O23, O24, O40 and O41 from it. -/

namespace Sys2Proof.Machine

/-! ### What a frame does to POS, ANGLE and IN_RANGE -/

/-- POS, ANGLE and IN_RANGE are unchanged. -/
def SamePosition (s t : State) : Prop := t.x = s.x ∧ t.y = s.y ∧ t.angle = s.angle ∧ t.inRange = s.inRange

theorem SamePosition.refl (s : State) : SamePosition s s := ⟨rfl, rfl, rfl, rfl⟩

theorem SamePosition.trans {s t u : State} (h : SamePosition s t) (k : SamePosition t u) : SamePosition s u := by
  simp_all [SamePosition]

section

variable {s t : State}

theorem turretStep_position (e : turretStep s = .cont t) : SamePosition s t := by
  rcases turretStep_cases s with ⟨_, e'⟩ | ⟨_, _, e'⟩ | ⟨_, _, e'⟩ <;> rw [e'] at e <;> cases e
  · exact .refl s
  · exact .refl s

theorem fireProjectile_position (e : fireProjectile s = .hit t ∨ fireProjectile s = .miss t) : SamePosition s t := by
  rcases fireProjectile_cases s with ⟨_, e'⟩ | ⟨_, _, e'⟩ | ⟨_, n, _, e'⟩ | ⟨_, n, _, e'⟩ <;> rw [e'] at e <;>
    simp at e <;> subst e
  · exact .refl s
  · exact .refl s

theorem shoot_position (e : shoot s = .cont t ∨ shoot s = .terminated t) : SamePosition s t := by
  rcases shoot_cases s with ⟨u, _, e'⟩ | ⟨u, hu, e'⟩ | ⟨u, hu, e'⟩ <;> rw [e'] at e <;> simp at e <;> subst e
  · simpa [SamePosition] using fireProjectile_position (.inl hu)
  · exact fireProjectile_position (.inr hu)

theorem goopStep_position (e : goopStep s = .cont t ∨ goopStep s = .terminated t) : SamePosition s t := by
  rcases goopStep_cases s with ⟨_, e'⟩ | ⟨_, _, e'⟩ | ⟨_, _, e'⟩ | ⟨_, _, e'⟩ <;> rw [e'] at e
  · simp at e; subst e
    exact .refl s
  · simp at e; subst e
    exact .refl s
  · simp at e; subst e
    exact .refl s
  · simpa [SamePosition] using shoot_position e

theorem periodicStep_position (e : periodicStep s = .cont t) : SamePosition s t := by
  rcases periodicStep_cases s with ⟨_, e'⟩ | ⟨_, _, e'⟩ | ⟨_, _, e'⟩ <;> rw [e'] at e <;> cases e
  · exact .refl s
  · exact .refl s

theorem tick_position (s : State) : SamePosition s (tick s) := .refl s

theorem exitStep_position (e : exitStep s = .cont t ∨ exitStep s = .terminated t) : SamePosition s t := by
  rcases exitStep_cases s with ⟨_, e'⟩ | ⟨_, _, e'⟩ | ⟨_, _, e'⟩ <;> rw [e'] at e <;> simp at e <;> subst e
  · exact .refl s
  · exact .refl s

/-- The frame moves: X by DIR and ANGLE by 1, with IN_RANGE as it was (R116). -/
def MovesOne (s t : State) : Prop :=
  t.inRange = s.inRange ∧ t.x = s.x + dirAddend (s.cfg.dir.get s.side) ∧ t.angle = s.angle + 1

/-- The frame enters range: the target is within the aggro distance, IN_RANGE is set and nothing moves (R117). -/
def EntersRange (s t : State) : Prop :=
  s.inRange = false ∧ distance s.x s.tx < s.cfg.aggroX.toNat ∧ t.inRange = true ∧ t.x = s.x ∧ t.angle = s.angle

/-- Steps 3 and 4 leave Y to the oscillator, and move or enter range. -/
theorem rangeStep_moves (e : rangeStep s = .cont t) : t.y = s.y ∧ (MovesOne s t ∨ EntersRange s t) := by
  rcases rangeStep_cases s with ⟨hr, e'⟩ | ⟨_, _, e'⟩ | ⟨_, _, e'⟩ <;> rw [e'] at e <;> cases e
  · unfold approachStep
    split
    case isTrue hd => exact ⟨rfl, .inr ⟨hr, hd, rfl, rfl, rfl⟩⟩
    case isFalse => exact ⟨rfl, .inl ⟨rfl, rfl, rfl⟩⟩
  · exact ⟨by simp, .inl ⟨by simp, by simp, by simp⟩⟩

/-- A completed frame recomputes Y from the old ANGLE, and moves or enters range (R115 to R118). -/
theorem frame_moves (e : frame s = .cont t ∨ frame s = .terminated t) :
    t.y = (oscillate s).y ∧ (MovesOne s t ∨ EntersRange s t) := by
  obtain ⟨s1, s2, e1, e2, e3⟩ := frame_completed e
  have after : SamePosition s2 t := by
    rcases e3 with e3 | ⟨s3, s4, e3, e4, e5⟩
    · exact goopStep_position (.inr e3)
    · exact (goopStep_position (.inl e3)).trans <| (periodicStep_position e4).trans <| (tick_position s4).trans
        (exitStep_position e5)
  obtain ⟨hx, -, ha, hr⟩ := turretStep_position e1
  obtain ⟨kx, ky, ka, kr⟩ := after
  obtain ⟨hcfg, hside, htx, -⟩ := (turretStep_keeps e1).1
  obtain ⟨my, m⟩ := rangeStep_moves e2
  simp only [MovesOne, EntersRange, oscillate_x, oscillate_y, oscillate_angle, oscillate_inRange, oscillate_cfg,
    oscillate_side, oscillate_tx, hx, ha, hr, hcfg, hside, htx] at my m ⊢
  rw [kx, ky, ka, kr]
  exact ⟨my, m⟩

end

/-- A STEP of a trial that completes is a completed frame (R111). -/
theorem exec_step_completed {s t : State} (ha : s.active = true) (e : exec .step s = .next t) (hidle : t.eng = .idle) :
    ∃ u, (frame s = .cont u ∨ frame s = .terminated u) ∧ t = u.complete := by
  rcases exec_step_cases s with ⟨hf, _⟩ | ⟨_, u, hu, e'⟩ | ⟨_, u, hu, e'⟩ | ⟨_, u, hu, e'⟩
  · simp [ha] at hf
  · rw [e'] at e; cases e
    exact ⟨u, .inl hu, rfl⟩
  · rw [e'] at e; cases e
    exact ⟨u, .inr hu, rfl⟩
  · rw [e'] at e; cases e
    cases hidle

/-- STEP and RUN in a trial end in a state with the registers that no frame writes as they were, ENG set on top. -/
theorem exec_frames_keep {s t : State} {i : Instr} (hi : i = .step ∨ i = .run) (ha : s.active = true)
    (e : exec i s = .next t) : ∃ u g, FrameKeeps s u ∧ t = { u with eng := g } := by
  rcases hi with rfl | rfl
  · rcases exec_step_cases s with ⟨hf, _⟩ | ⟨_, u, hu, e'⟩ | ⟨_, u, hu, e'⟩ | ⟨_, u, hu, e'⟩
    · simp [ha] at hf
    · rw [e'] at e; cases e
      exact ⟨u, _, frame_keeps (.inl hu), rfl⟩
    · rw [e'] at e; cases e
      exact ⟨u, _, frame_keeps (.inr hu), rfl⟩
    · rw [e'] at e; cases e
      exact ⟨u, _, (frame_hang_keeps hu).1, rfl⟩
  · rcases exec_run_cases s with ⟨hf, _⟩ | ⟨_, u, hu, e'⟩ | ⟨_, u, hu, e'⟩ | ⟨_, u, hu, e'⟩
    · simp [ha] at hf
    · rw [e'] at e; cases e
      exact ⟨u, _, runFrames_keeps ha (.inl hu), rfl⟩
    · rw [e'] at e; cases e
      exact ⟨u, _, runFrames_keeps ha (.inr (.inl hu)), rfl⟩
    · rw [e'] at e; cases e
      exact ⟨u, _, runFrames_keeps ha (.inr (.inr hu)), rfl⟩

theorem exec_refused {i : Instr} (hi : i = .step ∨ i = .run) {s : State} (ha : s.active = false) :
    exec i s = .next (refuseInactive s) := by
  rcases hi with rfl | rfl
  · simp [exec, execStep, ha]
  · simp [exec, execRun, ha]

/-! ### TARGET -/

section

variable {s t : State}

/-- No command writes TARGET (R28). -/
theorem exec_keeps_target {i : Instr} (e : exec i s = .next t) : t.tx = s.tx ∧ t.ty = s.ty := by
  have trial (hi : i = .step ∨ i = .run) : t.tx = s.tx ∧ t.ty = s.ty := by
    cases ha : s.active
    · rw [exec_refused hi ha] at e; cases e
      simp [refuseInactive]
    · obtain ⟨u, g, ⟨_, _, htx, hty, _⟩, rfl⟩ := exec_frames_keep hi ha e
      exact ⟨htx, hty⟩
  cases i with
  | nop hint => cases e; exact ⟨rfl, rfl⟩
  | trigCos amp angle => cases e; exact ⟨rfl, rfl⟩
  | trigSin amp angle => cases e; exact ⟨rfl, rfl⟩
  | start side phase seed =>
    rcases exec_start_cases side phase seed s with ⟨_, e'⟩ | ⟨_, e'⟩ <;> rw [e'] at e <;> cases e <;> exact ⟨rfl, rfl⟩
  | step => exact trial (.inl rfl)
  | run => exact trial (.inr rfl)
  | fire side r =>
    rcases exec_fire_cases side r s with ⟨hit, n, _, e'⟩ | ⟨_, e'⟩ <;> rw [e'] at e <;> cases e <;> exact ⟨rfl, rfl⟩
  | clrErr => cases e; exact ⟨rfl, rfl⟩

theorem runEngine_keeps_target (e : runEngine s = .next t) : t.tx = s.tx ∧ t.ty = s.ty := by
  rcases runEngine_cases s with ⟨_, e'⟩ | ⟨c, _, e'⟩ <;> rw [e'] at e
  · cases e
    exact ⟨rfl, rfl⟩
  · exact exec_keeps_target e

theorem hostRead_keeps_target (off : Nat) (s : State) : (hostRead off s).tx = s.tx ∧ (hostRead off s).ty = s.ty := by
  rcases hostRead_cases off s with ⟨_, _, e⟩ | ⟨_, e⟩ <;> simp [e, freeRead]

/-- A host write that changes TARGET is one to TARGET outside a trial and with the engine idle (R174). -/
theorem hostWrite_target (off : Nat) (v : Word) (s : State) :
    (hostWrite off v s).tx = s.tx ∧ (hostWrite off v s).ty = s.ty ∨
      off = 0x10 ∧ s.busy = false ∧ s.active = false := by
  rcases hostWrite_cases off v s with ⟨_, e⟩ | ⟨_, e⟩ | ⟨hoff, e⟩ | ⟨_, _, _, e⟩ <;> rw [e]
  · left
    rcases offer_cases v s with ⟨_, e⟩ | ⟨_, _, e⟩ | ⟨_, _, _, e⟩ | ⟨_, c, _, _, e⟩ <;> simp [e]
  · left
    rcases writePos_cases v s with ⟨_, e⟩ | ⟨_, _, e⟩ | ⟨_, _, e⟩ <;> simp [e]
  · rcases writeTarget_cases v s with ⟨_, e⟩ | ⟨_, _, e⟩ | ⟨hb, ha, e⟩
    · simp [e]
    · simp [e]
    · exact .inr ⟨hoff, hb, ha⟩
  · exact .inl ⟨rfl, rfl⟩

/-- A well-formed write at an offset is the host's write of 32 bits to that offset from BLOCK_BASE (R51). -/
theorem eq_of_wf_write {base off : Nat} {a : Access} {v : Word} (hw : a.wf base = true) (ho : a.op = .write v)
    (hoff : a.addr - base = off) : a = ⟨base + off, 32, .write v⟩ := by
  obtain ⟨addr, width, op⟩ := a
  simp only [Access.wf, Bool.and_eq_true, beq_iff_eq, decide_eq_true_eq] at hw
  obtain ⟨⟨⟨hwidth, hbase⟩, -⟩, -⟩ := hw
  have haddr : addr = base + off := by
    dsimp only at hoff
    omega
  rw [Access.mk.injEq]
  exact ⟨haddr, hwidth, ho⟩

end

/-! ### IN_RANGE -/

section

variable {s t : State}

theorem frame_keeps_inRange (hr : s.inRange = true) (e : frame s = .cont t ∨ frame s = .terminated t) :
    t.inRange = true := by
  rcases (frame_moves e).2 with ⟨h, -⟩ | ⟨h, -⟩
  · rw [h, hr]
  · simp [hr] at h

theorem frame_hang_inRange (e : frame s = .hang t) : t.inRange = s.inRange := by
  obtain ⟨u, -, rfl⟩ := frame_eq_hang.1 e
  rfl

theorem exec_step_keeps_inRange (hr : s.inRange = true) (e : exec .step s = .next t) : t.inRange = true := by
  rcases exec_step_cases s with ⟨_, e'⟩ | ⟨_, u, hu, e'⟩ | ⟨_, u, hu, e'⟩ | ⟨_, u, hu, e'⟩ <;> rw [e'] at e <;> cases e
  · simp [refuseInactive, hr]
  · exact frame_keeps_inRange (t := u) hr (.inl hu)
  · exact frame_keeps_inRange (t := u) hr (.inr hu)
  · exact (frame_hang_inRange hu).trans hr

theorem exec_run_keeps_inRange (hr : s.inRange = true) (e : exec .run s = .next t) : t.inRange = true := by
  have frames := runFrames_induct (·.inRange = true) (fun _ _ p _ hu => frame_keeps_inRange p (.inl hu))
    (fun _ _ p _ hu => frame_keeps_inRange p (.inr hu)) runFuel s hr
  rcases exec_run_cases s with ⟨_, e'⟩ | ⟨ha, u, hu, e'⟩ | ⟨ha, u, hu, e'⟩ | ⟨ha, u, hu, e'⟩ <;> rw [e'] at e <;>
    cases e
  · simp [refuseInactive, hr]
  · exact ((frames ha).1 u hu).1
  · exact (frames ha).2.1 u hu
  · obtain ⟨v, hv, -, hf⟩ := (frames ha).2.2 u hu
    exact (frame_hang_inRange hf).trans hv

/-- START alone among the commands clears IN_RANGE (R41). -/
theorem exec_keeps_inRange {i : Instr} (hr : s.inRange = true) (e : exec i s = .next t) :
    t.inRange = true ∨ ∃ side phase seed, i = .start side phase seed := by
  cases i with
  | nop hint => cases e; exact .inl hr
  | trigCos amp angle => cases e; exact .inl hr
  | trigSin amp angle => cases e; exact .inl hr
  | start side phase seed => exact .inr ⟨side, phase, seed, rfl⟩
  | step => exact .inl (exec_step_keeps_inRange hr e)
  | run => exact .inl (exec_run_keeps_inRange hr e)
  | fire side r =>
    rcases exec_fire_cases side r s with ⟨hit, n, _, e'⟩ | ⟨_, e'⟩ <;> rw [e'] at e <;> cases e <;> exact .inl hr
  | clrErr => cases e; exact .inl hr

theorem hostRead_inRange (off : Nat) (s : State) : (hostRead off s).inRange = s.inRange := by
  rcases hostRead_cases off s with ⟨_, _, e⟩ | ⟨_, e⟩ <;> simp [e, freeRead]

theorem hostWrite_inRange (off : Nat) (v : Word) (s : State) : (hostWrite off v s).inRange = s.inRange := by
  rcases hostWrite_cases off v s with ⟨_, e⟩ | ⟨_, e⟩ | ⟨_, e⟩ | ⟨_, _, _, e⟩ <;> rw [e]
  · rcases offer_cases v s with ⟨_, e⟩ | ⟨_, _, e⟩ | ⟨_, _, _, e⟩ | ⟨_, c, _, _, e⟩ <;> simp [e]
  · rcases writePos_cases v s with ⟨_, e⟩ | ⟨_, _, e⟩ | ⟨_, _, e⟩ <;> simp [e]
  · rcases writeTarget_cases v s with ⟨_, e⟩ | ⟨_, _, e⟩ | ⟨_, _, e⟩ <;> simp [e]

theorem access_inRange {a : Access} (e : access a s = .next t) : t.inRange = s.inRange := by
  rcases access_cases a s with ⟨⟨why, e'⟩, _⟩ | ⟨_, _, e'⟩ | ⟨v, _, _, e'⟩ <;> rw [e'] at e <;> cases e
  · exact hostRead_inRange _ _
  · exact hostWrite_inRange _ _ _

end

end Sys2Proof.Machine

namespace Sys2Proof

open Sys2Proof.Machine

/-- Settles O23: no command and no other event writes TARGET, and a host write does only under R174's conditions. -/
theorem targetIsLockedDuringATrial : Obligations.TargetIsLockedDuringATrial := by
  intro s t e hchange
  have changed : ¬(t.tx = s.tx ∧ t.ty = s.ty) := by tauto
  rcases step_cases s with ⟨u, hu, e'⟩ | ⟨rest, _, _, e'⟩ | ⟨a, rest, hev, e'⟩ | ⟨rest, hev, e'⟩ | ⟨rest, _, e'⟩ <;>
    rw [e'] at e
  case inl =>
    obtain ⟨htx, hty⟩ := runEngine_keeps_target e
    rcases hu with rfl | ⟨es, rfl⟩ <;> exact absurd ⟨htx, hty⟩ changed
  · cases e
    exact absurd (hostRead_keeps_target _ _) changed
  · rcases access_cases a (s.withEvents rest) with ⟨⟨why, e'⟩, _⟩ | ⟨_, _, e'⟩ | ⟨v, hw, ho, e'⟩ <;> rw [e'] at e <;>
      cases e
    · exact absurd (hostRead_keeps_target _ _) changed
    · rcases hostWrite_target (a.addr - s.cfg.blockBase) v (s.withEvents rest) with h | ⟨hoff, hb, ha⟩
      · exact absurd h changed
      · exact .inr ⟨hb, ha, v, rest, eq_of_wf_write hw ho hoff ▸ hev⟩
  · exact .inl ⟨rest, hev⟩
  · cases e
    exact absurd ⟨rfl, rfl⟩ changed

/-- Settles O24: IN_RANGE is cleared by no access and by no command but START. -/
theorem inRangeStaysSetUntilStart : Obligations.InRangeStaysSetUntilStart := by
  intro s t e hr hcleared
  rcases step_cases s with ⟨u, hu, e'⟩ | ⟨rest, _, _, e'⟩ | ⟨a, rest, _, e'⟩ | ⟨rest, hev, e'⟩ | ⟨rest, _, e'⟩ <;>
    rw [e'] at e
  case inl =>
    have hsame : u.inRange = s.inRange ∧ u.eng = s.eng := by
      rcases hu with rfl | ⟨es, rfl⟩ <;> exact ⟨rfl, rfl⟩
    obtain ⟨hur, heng⟩ := hsame
    rcases runEngine_cases u with ⟨_, e'⟩ | ⟨c, hc, e'⟩ <;> rw [e'] at e
    · cases e
      simp_all
    · rcases exec_keeps_inRange (hur.trans hr) e with h | ⟨side, phase, seed, rfl⟩
      · simp_all
      · exact .inr ⟨side, phase, seed, heng ▸ hc⟩
  · cases e
    simp [hostRead_inRange, hr] at hcleared
  · simp [access_inRange e, hr] at hcleared
  · exact .inl ⟨rest, hev⟩
  · cases e
    exact absurd (hr.symm.trans hcleared) (by simp)

theorem dirAddend_eq_dirStep (p : Params) (side : Side) : dirAddend (p.dir.get side) = dirStep p side := by
  have addend (d : Dir) : dirAddend d = if d = .plus then 1 else -1 := by cases d <;> decide
  cases side <;> exact addend _

/-- Settles O40: a frame whose IN_RANGE did not change has moved, and one whose IN_RANGE changed has entered range. -/
theorem frameMovesByExactlyOneUnlessItEntersRange : Obligations.FrameMovesByExactlyOneUnlessItEntersRange := by
  intro s t ha e hidle
  obtain ⟨u, hu, rfl⟩ := exec_step_completed ha e hidle
  obtain ⟨hy, ⟨hr, hx, hangle⟩ | ⟨hr, hd, hset, hx, hangle⟩⟩ := frame_moves hu
  · exact ⟨fun _ => ⟨dirAddend_eq_dirStep s.cfg s.side ▸ hx, hangle⟩, fun hne => absurd hr hne, hy⟩
  · exact ⟨fun heq => by simp_all, fun _ => ⟨hr, hx, hangle, hd⟩, hy⟩

/-- Settles O41: the registers not named are those that no frame writes. -/
theorem framesLeaveTheRestUnchanged : Obligations.FramesLeaveTheRestUnchanged := by
  intro s t i hi ha e
  obtain ⟨u, g, ⟨hcfg, hside, htx, hty, herr, htrig, hev, hrd, hfree, -⟩, rfl⟩ := exec_frames_keep hi ha e
  simp only [← hcfg, ← hside, ← htx, ← hty, ← herr, ← htrig, ← hev, ← hrd, ← hfree]

end Sys2Proof

/-! SUPPORT. The goop timer and counter over a completed frame, with the FIRE draw and the reason of termination
(10_state.md R37, R48; 41_encounter.md R118, R120): O46 from it. -/

namespace Sys2Proof.Machine

/-! ### The gates and the reply to a draw, as the statements write them out -/

/-- The gate of step 1 (R114). -/
theorem turretGate_iff (s : State) :
    TurretGate s ↔ s.gt.toNat % 64 = 0 ∧ (s.side = .right ∨ s.inRange = false) := by
  have hmask : s.gt &&& turretMask = 0 ↔ s.gt.toNat % 64 = 0 := by
    rw [← BitVec.toNat_inj, BitVec.toNat_and]
    exact iff_of_eq (congrArg (· = 0) (Nat.and_two_pow_sub_one_eq_mod s.gt.toNat 6))
  rw [TurretGate, hmask]

/-- The gate of the arm (R118). -/
theorem armMask_iff (b : Byte) : b &&& armMask = 0 ↔ b.toNat % 16 = 0 := by
  rw [← BitVec.toNat_inj, BitVec.toNat_and]
  exact iff_of_eq (congrArg (· = 0) (Nat.and_two_pow_sub_one_eq_mod b.toNat 4))

theorem rngReply_draw (g : Rng) (site : Site) (kind : DrawKind) (n : Nat) :
    rngReply g (.draw site kind) n = drawn g kind n := by cases kind <;> rfl

theorem arm_goopTimer (r : Byte) (s : State) : (arm r s).goopTimer = if r.toNat % 16 = 0 then 7 else s.goopTimer := by
  simp only [arm, armMask_iff]
  split <;> rfl

/-! ### The requests of a part of a frame -/

/-- Requests are issued, none of them the FIRE draw. -/
def IssuesNoFire (s t : State) : Prop := ∃ l, t.rngLog = s.rngLog ++ l ∧ ∀ kind, .draw .fire kind ∉ l

/-- Requests are issued, among them the FIRE draw. -/
def IssuesFire (s t : State) : Prop := ∃ l, t.rngLog = s.rngLog ++ l ∧ .draw .fire (s.cfg.drawKind .fire) ∈ l

theorem IssuesNoFire.of_eq {s t : State} (h : t.rngLog = s.rngLog) : IssuesNoFire s t := ⟨[], by simp [h], by simp⟩

theorem IssuesNoFire.of_request {s t : State} {q : RngReq} (h : t.rngLog = s.rngLog ++ [q])
    (hq : ∀ kind, q ≠ .draw .fire kind) : IssuesNoFire s t :=
  ⟨[q], h, fun kind hm => hq kind (List.mem_singleton.1 hm).symm⟩

theorem IssuesNoFire.trans {s t u : State} (h : IssuesNoFire s t) (k : IssuesNoFire t u) : IssuesNoFire s u := by
  obtain ⟨l, hl, hf⟩ := h
  obtain ⟨m, hm, hg⟩ := k
  exact ⟨l ++ m, by rw [hm, hl, List.append_assoc], fun kind => by simp [hf kind, hg kind]⟩

theorem IssuesFire.after {s t u : State} (h : IssuesNoFire s t) (hcfg : t.cfg = s.cfg) (k : IssuesFire t u) :
    IssuesFire s u := by
  obtain ⟨l, hl, -⟩ := h
  obtain ⟨m, hm, hg⟩ := k
  exact ⟨l ++ m, by rw [hm, hl, List.append_assoc], List.mem_append_right l (hcfg ▸ hg)⟩

theorem IssuesFire.before {s t u : State} (h : IssuesFire s t) (k : IssuesNoFire t u) : IssuesFire s u := by
  obtain ⟨l, hl, hf⟩ := h
  obtain ⟨m, hm, -⟩ := k
  exact ⟨l ++ m, by rw [hm, hl, List.append_assoc], List.mem_append_left m hf⟩

/-! ### Steps 1 to 4: the timer that step 5 meets -/

section

variable {s t : State}

theorem turretStep_sigma (e : turretStep s = .cont t) : t.sigma = sigmaAtArm s := by
  unfold sigmaAtArm
  rcases turretStep_cases s with ⟨hg, e'⟩ | ⟨hg, _, e'⟩ | ⟨_, _, e'⟩ <;> rw [e'] at e <;> cases e
  · rw [if_neg ((turretGate_iff s).not.1 hg)]
  · rw [if_pos ((turretGate_iff s).1 hg), issued_sigma, rngReply_draw]
    rfl

/-- Step 1 leaves the goop registers alone. -/
theorem turretStep_goop (e : turretStep s = .cont t) :
    IssuesNoFire s t ∧ t.goopCounter = s.goopCounter ∧ t.goopTimer = s.goopTimer := by
  rcases turretStep_cases s with ⟨_, e'⟩ | ⟨_, _, e'⟩ | ⟨_, _, e'⟩ <;> rw [e'] at e <;> cases e
  · exact ⟨.of_eq rfl, rfl, rfl⟩
  · exact ⟨.of_request rfl (by simp), rfl, rfl⟩

/-- Step 4 arms the timer where the low bits of the ARM byte are 0 (R118). -/
theorem rangeStep_goop (e : rangeStep s = .cont t) :
    IssuesNoFire s t ∧ t.goopCounter = s.goopCounter ∧
      t.goopTimer = if s.inRange = true ∧ (drawn s.collaborator s.cfg.armKind s.sigma).1.toNat % 16 = 0 then 7
        else s.goopTimer := by
  rcases rangeStep_cases s with ⟨hr, e'⟩ | ⟨hr, _, e'⟩ | ⟨_, _, e'⟩ <;> rw [e'] at e <;> cases e
  · exact ⟨.of_eq (by simp), by simp, by simp [hr]⟩
  · refine ⟨.of_request (q := .draw .arm (s.cfg.drawKind .arm)) (by simp) (by simp), by simp, ?_⟩
    simp [arm_goopTimer, rngReply_draw, hr, Params.drawKind]

/-- Steps 1 to 4 issue no FIRE draw, leave GOOP_COUNTER and lead to the timer written out in `timerAtStepFive`. -/
theorem frame_head_goop {s1 : State} (e1 : turretStep s = .cont s1) (e2 : rangeStep (oscillate s1) = .cont t) :
    IssuesNoFire s t ∧ t.goopCounter = s.goopCounter ∧ t.goopTimer = timerAtStepFive s := by
  obtain ⟨hlog, hcounter, htimer⟩ := turretStep_goop e1
  obtain ⟨klog, kcounter, ktimer⟩ := rangeStep_goop e2
  obtain ⟨-, -, -, hrange⟩ := turretStep_position e1
  obtain ⟨hcfg, -⟩ := (turretStep_keeps e1).1
  refine ⟨hlog.trans klog, kcounter.trans hcounter, ktimer.trans (if_congr ?_ rfl htimer)⟩
  simp [armByte, State.collaborator, hrange, hcfg, turretStep_sigma e1]

/-! ### Steps 6 to 8 -/

/-- After step 5 the goop registers stay, no FIRE draw is made, and the trial can end only at the exit. -/
theorem frame_tail_goop {s4 : State} (e4 : periodicStep s = .cont s4)
    (e5 : exitStep (tick s4) = .cont t ∨ exitStep (tick s4) = .terminated t) :
    IssuesNoFire s t ∧ t.goopCounter = s.goopCounter ∧ t.goopTimer = s.goopTimer ∧
      (t.reason = s.reason ∨ t.reason = .missExit) := by
  have periodic : IssuesNoFire s s4 ∧ s4.goopCounter = s.goopCounter ∧ s4.goopTimer = s.goopTimer ∧
      s4.reason = s.reason := by
    rcases periodicStep_cases s with ⟨_, e'⟩ | ⟨_, _, e'⟩ | ⟨_, _, e'⟩ <;> rw [e'] at e4 <;> cases e4
    · exact ⟨.of_eq rfl, rfl, rfl, rfl⟩
    · exact ⟨.of_request rfl (by simp), rfl, rfl, rfl⟩
  obtain ⟨hlog, hcounter, htimer, hreason⟩ := periodic
  rcases exitStep_cases (tick s4) with ⟨_, e'⟩ | ⟨_, _, e'⟩ | ⟨_, _, e'⟩ <;> rw [e'] at e5 <;> simp at e5 <;> subst e5
  · exact ⟨hlog.trans (.of_eq rfl), hcounter, htimer, .inr rfl⟩
  · exact ⟨hlog.trans (.of_request rfl (by simp)), hcounter, htimer, .inl hreason⟩

/-! ### Step 5 and the frame -/

/-- What becomes of a goop timer `timer` and of GOOP_COUNTER, and with which FIRE draw and reason (R120). -/
inductive GoopOutcome (timer : Byte) (s t : State) : Prop
  /-- No expiry: the timer counts down, if it runs. -/
  | countsDown (h : timer ≠ 1) (ht : t.goopTimer = if timer = 0 then 0 else timer - 1)
      (hc : t.goopCounter = s.goopCounter) (hl : IssuesNoFire s t) (hr : t.reason = s.reason ∨ t.reason = .missExit)
  /-- The last goop is spent and the trial ends. -/
  | spendsLast (h : timer = 1) (ht : t.goopTimer = 0) (hc : s.goopCounter - 1 = 0) (hc' : t.goopCounter = 0)
      (hl : IssuesNoFire s t) (hr : t.reason = .missGoop)
  /-- A goop is spent and a projectile is fired. -/
  | fires (h : timer = 1) (ht : t.goopTimer = 0) (hc : s.goopCounter - 1 ≠ 0)
      (hc' : t.goopCounter = s.goopCounter - 1) (hl : IssuesFire s t)
      (hr : t.reason = s.reason ∨ t.reason = .hit ∨ t.reason = .missExit)

theorem shoot_goop (e : shoot s = .cont t ∨ shoot s = .terminated t) :
    IssuesFire s t ∧ t.goopCounter = s.goopCounter ∧ t.goopTimer = s.goopTimer := by
  have fired {u : State} (hu : fireProjectile s = .hit u ∨ fireProjectile s = .miss u) :
      IssuesFire s u ∧ u.goopCounter = s.goopCounter ∧ u.goopTimer = s.goopTimer := by
    rcases fireProjectile_cases s with ⟨_, e'⟩ | ⟨_, _, e'⟩ | ⟨_, n, _, e'⟩ | ⟨_, n, _, e'⟩ <;> rw [e'] at hu <;>
      simp at hu <;> subst hu <;> exact ⟨⟨_, rfl, by simp⟩, rfl, rfl⟩
  rcases shoot_cases s with ⟨u, _, e'⟩ | ⟨u, hu, e'⟩ | ⟨u, hu, e'⟩ <;> rw [e'] at e <;> simp at e <;> subst e
  · exact fired (u := u) (.inl hu)
  · exact fired (.inr hu)

theorem goopStep_outcome (e : goopStep s = .cont t ∨ goopStep s = .terminated t) : GoopOutcome s.goopTimer s t := by
  rcases goopStep_cases s with ⟨h0, e'⟩ | ⟨h0, h1, e'⟩ | ⟨h1, hc, e'⟩ | ⟨h1, hc, e'⟩
  · rw [e'] at e; simp at e; subst e
    exact .countsDown (by simp [h0]) (by simp [h0]) rfl (.of_eq rfl) (.inl rfl)
  · rw [e'] at e; simp at e; subst e
    exact .countsDown (by bv_omega) (if_neg h0).symm rfl (.of_eq rfl) (.inl rfl)
  · rw [e'] at e; simp at e; subst e
    exact .spendsLast (by bv_omega) h1 hc hc (.of_eq rfl) rfl
  · have hreason : t.reason = s.reason ∨ t.reason = .hit := by
      rcases e with e | e
      · exact .inl (goopStep_cont_flags e).2.2
      · exact .inr (shoot_terminated_flags (e' ▸ e)).2.2
    obtain ⟨hlog, hcounter, htimer⟩ := shoot_goop (e' ▸ e)
    exact .fires (by bv_omega) (htimer.trans h1) hc hcounter hlog (hreason.imp_right .inl)

/-- A frame that goes on after step 5 has not spent the last goop. -/
theorem goopStep_cont_not_last (e : goopStep s = .cont t) (h : s.goopTimer = 1) : s.goopCounter - 1 ≠ 0 := by
  rcases goopStep_cases s with ⟨h0, _⟩ | ⟨_, h1, _⟩ | ⟨_, _, e'⟩ | ⟨_, hc, _⟩
  · simp [h] at h0
  · simp [h] at h1
  · simp [e'] at e
  · exact hc

/-- A completed frame counts the timer down, spends the last goop or fires, by the timer that step 5 meets. -/
theorem frame_goop (e : frame s = .cont t ∨ frame s = .terminated t) : GoopOutcome (timerAtStepFive s) s t := by
  obtain ⟨s1, s2, e1, e2, e3⟩ := frame_completed e
  obtain ⟨hlog, hcounter, htimer⟩ := frame_head_goop e1 e2
  have hcfg : s2.cfg = s.cfg := by
    rw [(rangeStep_keeps e2).1.1, oscillate_cfg, (turretStep_keeps e1).1.1]
  have hreason : s2.reason = s.reason := by
    rw [(rangeStep_keeps e2).2.2.2, oscillate_reason, (turretStep_keeps e1).2.2.2]
  have head {u : State} (k : GoopOutcome s2.goopTimer s2 u) : GoopOutcome (timerAtStepFive s) s u := by
    rw [← htimer]
    cases k with
    | countsDown h ht hc hl hr => exact .countsDown h ht (hc.trans hcounter) (hlog.trans hl) (hreason ▸ hr)
    | spendsLast h ht hc hc' hl hr => exact .spendsLast h ht (hcounter ▸ hc) hc' (hlog.trans hl) hr
    | fires h ht hc hc' hl hr => exact .fires h ht (hcounter ▸ hc) (hcounter ▸ hc') (hl.after hlog hcfg) (hreason ▸ hr)
  rcases e3 with e3 | ⟨s3, s4, e3, e4, e5⟩
  · exact head (goopStep_outcome (.inr e3))
  · obtain ⟨klog, kcounter, ktimer, kreason⟩ := frame_tail_goop e4 e5
    rw [(goopStep_cont_flags e3).2.2] at kreason
    apply head
    cases goopStep_outcome (.inl e3) with
    | countsDown h ht hc hl _ =>
      exact .countsDown h (ktimer.trans ht) (kcounter.trans hc) (hl.trans klog) kreason
    | spendsLast h _ hc _ _ _ => exact absurd hc (goopStep_cont_not_last e3 h)
    | fires h ht hc hc' hl _ =>
      exact .fires h (ktimer.trans ht) hc (kcounter.trans hc') (hl.before klog) (kreason.imp_right .inr)

end

end Sys2Proof.Machine

namespace Sys2Proof

open Sys2Proof.Machine

/-- Settles O46: in a trial of a safe state the counter is above 0 and REASON is NONE before the frame, and the three
outcomes of the goop timer give the clauses. -/
theorem goopCounterCountsExpiries : Obligations.GoopCounterCountsExpiries := by
  intro s t hsafe ha e hidle
  obtain ⟨u, hu, rfl⟩ := exec_step_completed ha e hidle
  have hlive : s.goopCounter ≠ 0 := hsafe.counterLive ha
  have hnone : s.reason = .none := hsafe.reasonTerm.2 (hsafe.notBoth ha)
  cases frame_goop hu with
  | countsDown h ht hc hl hr =>
    obtain ⟨l, hlog, hf⟩ := hl
    refine ⟨l, hlog, fun h1 => absurd h1 h, fun _ => ⟨ht, hc, hf _, ?_, ?_⟩⟩
    · rcases hr with hr | hr <;> simp [hr, hnone]
    · rcases hr with hr | hr <;> simp [hr, hnone]
  | spendsLast h ht hc hc' hl hr =>
    obtain ⟨l, hlog, hf⟩ := hl
    refine ⟨l, hlog, fun _ => ⟨ht, ?_, ?_, ?_⟩, fun h1 => absurd h h1⟩
    · rw [complete_goopCounter, hc']
      bv_omega
    · simp [hf, hc']
    · simp [hr, hc']
  | fires h ht hc hc' hl hr =>
    obtain ⟨l, hlog, hf⟩ := hl
    have hleft : u.goopCounter ≠ 0 := hc' ▸ hc
    refine ⟨l, hlog, fun _ => ⟨ht, ?_, ?_, ?_⟩, fun h1 => absurd h h1⟩
    · rw [complete_goopCounter, hc']
      bv_omega
    · simp only [complete_goopCounter]
      exact iff_of_true hf hleft
    · have hreason : u.reason ≠ .missGoop := by rcases hr with hr | hr | hr <;> simp [hr, hnone]
      exact iff_of_false hreason hleft

end Sys2Proof

/-! SUPPORT. When a step has a next state (20_memory.md R51; 60_exceptions.md R190), and what it does to the log of the
RNG port (20_memory.md R56, R58); O19 and O25 from them. -/

namespace Sys2Proof.Machine

/-! ### The outcomes of a step -/

/-- The check of R51 as comparisons of numbers. -/
theorem access_wf_iff (base : Nat) (a : Access) :
    a.wf base = true ↔ a.width = 32 ∧ base ≤ a.addr ∧ a.addr < base + 0x40 ∧ (a.addr - base) % 4 = 0 := by
  simp only [Access.wf, Bool.and_eq_true, beq_iff_eq, decide_eq_true_eq]
  omega

theorem access_has_next_iff (a : Access) (s : State) :
    (∃ t, access a s = .next t) ↔ a.wf s.cfg.blockBase = true := by
  rcases access_cases a s with ⟨⟨why, e⟩, hw⟩ | ⟨hw, _, e⟩ | ⟨v, hw, _, e⟩ <;> simp [e, hw]

/-- The engine's move never stops the machine: no computation raises an exception (R190). -/
theorem runEngine_eq_next (s : State) : ∃ t, runEngine s = .next t := by
  rcases runEngine_cases s with ⟨_, e⟩ | ⟨c, _, e⟩ <;> rw [e]
  · exact ⟨s, rfl⟩
  · exact exec_eq_next c s

/-! ### The requests of a frame

The log grows where the old one is an initial part of the new one (`<+:`). The steps of a frame issue a request before
they know whether it is answered, so the rules speak of the state a result carries, whichever of its forms it has. -/

/-- The state reached, whether the frame continues, has terminated or never completes. -/
def FrameResult.state : FrameResult → State
  | .cont s => s
  | .terminated s => s
  | .hang s => s

/-- The state reached, whether the projectile hit, missed or never ends. -/
def Shot.state : Shot → State
  | .hit s => s
  | .miss s => s
  | .never s => s

@[simp] theorem state_shotHit (s : State) : (Shot.hit s).state = s := rfl

@[simp] theorem state_shotMiss (s : State) : (Shot.miss s).state = s := rfl

@[simp] theorem state_shotNever (s : State) : (Shot.never s).state = s := rfl

@[simp] theorem state_cont (s : State) : (FrameResult.cont s).state = s := rfl

@[simp] theorem state_terminated (s : State) : (FrameResult.terminated s).state = s := rfl

@[simp] theorem state_hang (s : State) : (FrameResult.hang s).state = s := rfl

/-- A hang gives up the registers of the frame and keeps its requests (R58). -/
@[simp] theorem onlyRequestsOnHang_rngLog (r : FrameResult) (s : State) :
    (r.onlyRequestsOnHang s).state.rngLog = r.state.rngLog := by
  cases r <;> rfl

/-- What comes after a step that continues only appends, so the whole does. -/
theorem logGrows_andThen {r : FrameResult} {k : State → FrameResult} {l : List RngReq} (h : l <+: r.state.rngLog)
    (hk : ∀ u, u.rngLog <+: (k u).state.rngLog) : l <+: (r.andThen k).state.rngLog := by
  cases r with
  | cont u => exact h.trans (hk u)
  | terminated u => exact h
  | hang u => exact h

section

variable (s : State)

theorem turretStep_logGrows : s.rngLog <+: (turretStep s).state.rngLog := by
  rcases turretStep_cases s with ⟨_, e⟩ | ⟨_, _, e⟩ | ⟨_, _, e⟩ <;> simp [e]

theorem rangeStep_logGrows : s.rngLog <+: (rangeStep s).state.rngLog := by
  rcases rangeStep_cases s with ⟨_, e⟩ | ⟨_, _, e⟩ | ⟨_, _, e⟩ <;> simp [e]

theorem fireProjectile_logGrows : s.rngLog <+: (fireProjectile s).state.rngLog := by
  rcases fireProjectile_cases s with ⟨_, e⟩ | ⟨_, _, e⟩ | ⟨_, n, _, e⟩ | ⟨_, n, _, e⟩ <;> simp [e]

theorem shoot_logGrows : s.rngLog <+: (shoot s).state.rngLog := by
  have hshot := fireProjectile_logGrows s
  rcases shoot_cases s with ⟨t, ht, e⟩ | ⟨t, ht, e⟩ | ⟨t, ht, e⟩ <;> rw [ht] at hshot <;> rw [e] <;> exact hshot

theorem goopStep_logGrows : s.rngLog <+: (goopStep s).state.rngLog := by
  rcases goopStep_cases s with ⟨_, e⟩ | ⟨_, _, e⟩ | ⟨_, _, e⟩ | ⟨_, _, e⟩ <;> rw [e]
  · simp
  · simp
  · simp
  · exact shoot_logGrows s.countDown.spendGoop

theorem periodicStep_logGrows : s.rngLog <+: (periodicStep s).state.rngLog := by
  rcases periodicStep_cases s with ⟨_, e⟩ | ⟨_, _, e⟩ | ⟨_, _, e⟩ <;> simp [e]

theorem exitStep_logGrows : s.rngLog <+: (exitStep s).state.rngLog := by
  rcases exitStep_cases s with ⟨_, e⟩ | ⟨_, _, e⟩ | ⟨_, _, e⟩ <;> simp [e]

theorem frame_logGrows : s.rngLog <+: (frame s).state.rngLog := by
  rw [frame, onlyRequestsOnHang_rngLog]
  exact logGrows_andThen (turretStep_logGrows s) fun s1 =>
    logGrows_andThen (rangeStep_logGrows (oscillate s1)) fun s2 =>
    logGrows_andThen (goopStep_logGrows s2) fun s3 =>
    logGrows_andThen (periodicStep_logGrows s3) fun s4 => exitStep_logGrows (tick s4)

end

theorem runFrames_logGrows (n : Nat) : ∀ s : State, s.rngLog <+: (runFrames n s).state.rngLog := by
  induction n with
  | zero => exact fun s => by rw [runFrames_zero, state_cont]
  | succ n ih => exact fun s => logGrows_andThen (frame_logGrows s) ih

/-! ### The requests of a command -/

/-- A STEP that is refused issues no request, and one that runs keeps the requests of its frame, hung or not. -/
theorem exec_step_logGrows {s t : State} (e : exec .step s = .next t) : s.rngLog <+: t.rngLog := by
  have hframe := frame_logGrows s
  rcases exec_step_cases s with ⟨_, e'⟩ | ⟨_, u, hu, e'⟩ | ⟨_, u, hu, e'⟩ | ⟨_, u, hu, e'⟩ <;> rw [e'] at e <;> cases e
  · simp [refuseInactive]
  all_goals
    rw [hu] at hframe
    exact hframe

theorem exec_run_logGrows {s t : State} (e : exec .run s = .next t) : s.rngLog <+: t.rngLog := by
  have hframes := runFrames_logGrows runFuel s
  rcases exec_run_cases s with ⟨_, e'⟩ | ⟨_, u, hu, e'⟩ | ⟨_, u, hu, e'⟩ | ⟨_, u, hu, e'⟩ <;> rw [e'] at e <;> cases e
  · simp [refuseInactive]
  all_goals
    rw [hu] at hframes
    exact hframes

/-- The commands that may issue requests: those of a trial (R56). -/
def IssuesRequests (c : Instr) : Prop := c = .step ∨ c = .run ∨ ∃ side phase seed, c = .start side phase seed

/-- A command issues no request, or it is one of a trial and what it issues is appended (R100, R159, R170). -/
theorem exec_rngLog {c : Instr} {s t : State} (e : exec c s = .next t) :
    t.rngLog = s.rngLog ∨ IssuesRequests c ∧ s.rngLog <+: t.rngLog := by
  cases c with
  | nop hint => cases e; exact .inl rfl
  | trigCos amp angle => cases e; exact .inl rfl
  | trigSin amp angle => cases e; exact .inl rfl
  | start side phase seed =>
    refine .inr ⟨.inr (.inr ⟨side, phase, seed, rfl⟩), ?_⟩
    rcases exec_start_cases side phase seed s with ⟨_, e'⟩ | ⟨_, e'⟩ <;> rw [e'] at e <;> cases e <;> simp
  | step => exact .inr ⟨.inl rfl, exec_step_logGrows e⟩
  | run => exact .inr ⟨.inr (.inl rfl), exec_run_logGrows e⟩
  | fire side r =>
    rcases exec_fire_cases side r s with ⟨hit, n, _, e'⟩ | ⟨_, e'⟩ <;> rw [e'] at e <;> cases e <;> exact .inl rfl
  | clrErr => cases e; exact .inl rfl

/-! ### The requests of a step -/

theorem runEngine_rngLog {s t : State} (e : runEngine s = .next t) :
    t.rngLog = s.rngLog ∨ (∃ c, s.eng = .exec c ∧ IssuesRequests c) ∧ s.rngLog <+: t.rngLog := by
  rcases runEngine_cases s with ⟨_, e'⟩ | ⟨c, hc, e'⟩ <;> rw [e'] at e
  · cases e
    exact .inl rfl
  · exact (exec_rngLog e).imp_right fun ⟨hi, hlog⟩ => ⟨⟨c, hc, hi⟩, hlog⟩

theorem hostRead_rngLog (off : Nat) (s : State) : (hostRead off s).rngLog = s.rngLog := by
  rcases hostRead_cases off s with ⟨_, _, e⟩ | ⟨_, e⟩ <;> simp [e, freeRead]

theorem hostWrite_rngLog (off : Nat) (v : Word) (s : State) : (hostWrite off v s).rngLog = s.rngLog := by
  rcases hostWrite_cases off v s with ⟨_, e⟩ | ⟨_, e⟩ | ⟨_, e⟩ | ⟨_, _, _, e⟩ <;> rw [e]
  · rcases offer_cases v s with ⟨_, e⟩ | ⟨_, _, e⟩ | ⟨_, _, _, e⟩ | ⟨_, c, _, _, e⟩ <;> simp [e]
  · rcases writePos_cases v s with ⟨_, e⟩ | ⟨_, _, e⟩ | ⟨_, _, e⟩ <;> simp [e]
  · rcases writeTarget_cases v s with ⟨_, e⟩ | ⟨_, _, e⟩ | ⟨_, _, e⟩ <;> simp [e]

theorem access_rngLog {a : Access} {s t : State} (e : access a s = .next t) : t.rngLog = s.rngLog := by
  rcases access_cases a s with ⟨⟨why, e'⟩, _⟩ | ⟨_, _, e'⟩ | ⟨v, _, _, e'⟩ <;> rw [e'] at e <;> cases e
  · exact hostRead_rngLog _ _
  · exact hostWrite_rngLog _ _ _

/-- Reset() issues no request (R222). -/
theorem resetBlock_rngLog (s : State) : (resetBlock s).rngLog = s.rngLog := by
  unfold resetBlock
  split <;> rfl

theorem step_rngLog {s t : State} (e : step s = .next t) :
    t.rngLog = s.rngLog ∨ (∃ c, s.eng = .exec c ∧ IssuesRequests c) ∧ s.rngLog <+: t.rngLog := by
  rcases step_cases s with ⟨u, hu, e'⟩ | ⟨rest, _, _, e'⟩ | ⟨a, rest, _, e'⟩ | ⟨rest, _, e'⟩ | ⟨rest, _, e'⟩ <;>
    rw [e'] at e
  case inl =>
    rcases hu with rfl | ⟨es, rfl⟩
    · exact runEngine_rngLog e
    · exact runEngine_rngLog (s := s.withEvents es) e
  · cases e
    exact .inl (hostRead_rngLog _ _)
  · exact .inl (access_rngLog (s := s.withEvents rest) e)
  · cases e
    exact .inl (resetBlock_rngLog _)
  · cases e
    exact .inl rfl

end Sys2Proof.Machine

namespace Sys2Proof

open Sys2Proof.Machine

/-- Settles O19: an access has a next state exactly where the access decoder accepts it, and every other kind of step
has one always. -/
theorem onlyInexpressibleAccessesStopTheMachine : Obligations.OnlyInexpressibleAccessesStopTheMachine := by
  refine ⟨fun s a rest hev => ?_, fun s => ?_⟩
  · rw [step_of_access hev]
    exact (access_has_next_iff a _).trans (access_wf_iff _ a)
  · rcases step_cases s with ⟨u, _, e⟩ | ⟨rest, _, _, e⟩ | ⟨a, rest, hev, e⟩ | ⟨rest, _, e⟩ | ⟨rest, _, e⟩ <;> rw [e]
    case inl => exact .inl (runEngine_eq_next u)
    · exact .inl ⟨_, rfl⟩
    · rcases access_cases a (s.withEvents rest) with ⟨⟨why, e⟩, _⟩ | ⟨_, _, e⟩ | ⟨v, _, _, e⟩
      · exact .inr ⟨why, a, rest, hev, e⟩
      · exact .inl ⟨_, e⟩
      · exact .inl ⟨_, e⟩
    · exact .inl ⟨_, rfl⟩
    · exact .inl ⟨_, rfl⟩

/-- Settles O25: a step leaves the log as it is, or the engine runs a command of a trial, which appends to it. -/
theorem onlyTrialCommandsIssueRequests : Obligations.OnlyTrialCommandsIssueRequests := by
  intro s t e
  rcases step_rngLog e with hlog | ⟨⟨c, hc, hi⟩, l, hl⟩
  · exact ⟨⟨[], by simp [hlog]⟩, fun hne => absurd hlog hne⟩
  · refine ⟨⟨l, hl.symm⟩, fun _ => ?_⟩
    rcases hi with rfl | rfl | ⟨side, phase, seed, rfl⟩
    · exact .inl hc
    · exact .inr (.inl hc)
    · exact .inr (.inr ⟨side, phase, seed, hc⟩)

end Sys2Proof

/-! SUPPORT. The decoder and the encoder by the fields of a word (30_encoding.md R71, R72, R74 to R76, R78): a word
decodes to a command exactly if the command encodes to it. The row of the opcode map (R73) that it selects is then the
command's. Also the assembler (R79), and the write of CMD as a step (43_control.md R172); O1 to O6 and O11 from them. -/

namespace Sys2Proof

/-! ### Words as concatenations of fields -/

section

variable {k m n : Nat} {x : BitVec m} {y : BitVec n}

theorem append_eq_iff {w : BitVec (m + n)} : x ++ y = w ↔ w.extractLsb' n m = x ∧ w.extractLsb' 0 n = y := by
  constructor
  · rintro rfl
    exact ⟨BitVec.extractLsb'_append_eq_left, BitVec.extractLsb'_append_eq_right⟩
  · rintro ⟨rfl, rfl⟩
    exact BitVec.extractLsb'_append_extractLsb'

/-- A field is a concatenation exactly if its two parts are those of the concatenation. -/
theorem extractLsb'_eq_append_iff {w : BitVec k} {start : Nat} :
    w.extractLsb' start (m + n) = x ++ y ↔ w.extractLsb' (start + n) m = x ∧ w.extractLsb' start n = y := by
  rw [← BitVec.extractLsb'_append_extractLsb'_eq_extractLsb' rfl, append_eq_iff,
    BitVec.extractLsb'_append_eq_left, BitVec.extractLsb'_append_eq_right]
  exact and_congr eq_comm eq_comm

/-- A mask that is 1 in the upper bits alone compares the upper bits. -/
theorem and_upperMask_eq_iff (w : BitVec (m + n)) (p : BitVec m) :
    w &&& (BitVec.allOnes m ++ 0#n) = p ++ 0#n ↔ w.extractLsb' n m = p := by
  conv_lhs => rw [← BitVec.extractLsb'_append_extractLsb' (x := w)]
  rw [BitVec.and_append, BitVec.and_allOnes, BitVec.and_zero, BitVec.append_left_inj]

/-- So a mask over two neighbouring upper fields compares the two. -/
theorem and_twoFieldMask_eq_iff (w : BitVec (k + m + n)) (p : BitVec k) (q : BitVec m) :
    w &&& (BitVec.allOnes (k + m) ++ 0#n) = p ++ q ++ 0#n ↔
      w.extractLsb' (n + m) k = p ∧ w.extractLsb' n m = q := by
  rw [and_upperMask_eq_iff, extractLsb'_eq_append_iff]

theorem toNat_append_eq_add (x : BitVec m) (y : BitVec n) : (x ++ y).toNat = x.toNat * 2 ^ n + y.toNat := by
  rw [BitVec.toNat_append, ← Nat.shiftLeft_add_eq_or_of_lt y.isLt, Nat.shiftLeft_eq]

end

/-! ### The formats of R71, field by field -/

section

variable {w : Word} {op : BitVec 4}

/-- Format FH, and FN where the field [27:0] is reserved. -/
theorem formatFH_eq_iff {hint : BitVec 28} :
    op ++ hint = w ↔ w.extractLsb 31 28 = op ∧ w.extractLsb 27 0 = hint := append_eq_iff

theorem formatFA_eq_iff {reserved : BitVec 12} {amp angle : Byte} :
    op ++ reserved ++ amp ++ angle = w ↔
      w.extractLsb 31 28 = op ∧ w.extractLsb 27 16 = reserved ∧ w.extractLsb 15 8 = amp ∧
        w.extractLsb 7 0 = angle := by
  rw [append_eq_iff, extractLsb'_eq_append_iff, extractLsb'_eq_append_iff, and_assoc, and_assoc]
  exact .rfl

theorem formatFS_eq_iff {reserved : BitVec 3} {side : BitVec 1} {phase : Byte} {seed : Half} :
    op ++ reserved ++ side ++ phase ++ seed = w ↔
      w.extractLsb 31 28 = op ∧ w.extractLsb 27 25 = reserved ∧ w.extractLsb 24 24 = side ∧
        w.extractLsb 23 16 = phase ∧ w.extractLsb 15 0 = seed := by
  rw [append_eq_iff, extractLsb'_eq_append_iff, extractLsb'_eq_append_iff, extractLsb'_eq_append_iff, and_assoc,
    and_assoc, and_assoc]
  exact .rfl

theorem formatFF_eq_iff {reserved : BitVec 19} {side : BitVec 1} {r : Byte} :
    op ++ reserved ++ side ++ r = w ↔
      w.extractLsb 31 28 = op ∧ w.extractLsb 27 9 = reserved ∧ w.extractLsb 8 8 = side ∧ w.extractLsb 7 0 = r := by
  rw [append_eq_iff, extractLsb'_eq_append_iff, extractLsb'_eq_append_iff, and_assoc, and_assoc]
  exact .rfl

end

/-! ### The encoder -/

/-- SIDE and its bit determine each other (R72). -/
theorem ofBit_eq_iff {b : BitVec 1} {side : Side} : Side.ofBit b = side ↔ b = side.bit := by
  obtain rfl | rfl : b = 0 ∨ b = 1 := by bv_omega
  all_goals cases side <;> decide

theorem bit_ofBit (b : BitVec 1) : (Side.ofBit b).bit = b := (ofBit_eq_iff.1 rfl).symm

section

variable {w : Word}

theorem encode_nop_eq_iff {hint : BitVec 28} :
    encode (.nop hint) = w ↔ w.extractLsb 31 28 = 0x0#4 ∧ w.extractLsb 27 0 = hint := formatFH_eq_iff

theorem encode_trigCos_eq_iff {amp angle : Byte} :
    encode (.trigCos amp angle) = w ↔
      w.extractLsb 31 28 = 0x1#4 ∧ w.extractLsb 27 16 = 0#12 ∧ w.extractLsb 15 8 = amp ∧ w.extractLsb 7 0 = angle :=
  formatFA_eq_iff

theorem encode_trigSin_eq_iff {amp angle : Byte} :
    encode (.trigSin amp angle) = w ↔
      w.extractLsb 31 28 = 0x2#4 ∧ w.extractLsb 27 16 = 0#12 ∧ w.extractLsb 15 8 = amp ∧ w.extractLsb 7 0 = angle :=
  formatFA_eq_iff

theorem encode_start_eq_iff {side : Side} {phase : Byte} {seed : Half} :
    encode (.start side phase seed) = w ↔
      w.extractLsb 31 28 = 0x3#4 ∧ w.extractLsb 27 25 = 0#3 ∧ Side.ofBit (w.extractLsb 24 24) = side ∧
        w.extractLsb 23 16 = phase ∧ w.extractLsb 15 0 = seed := by
  rw [ofBit_eq_iff]
  exact formatFS_eq_iff

theorem encode_step_eq_iff : encode .step = w ↔ w.extractLsb 31 28 = 0x4#4 ∧ w.extractLsb 27 0 = 0#28 :=
  formatFH_eq_iff

theorem encode_run_eq_iff : encode .run = w ↔ w.extractLsb 31 28 = 0x5#4 ∧ w.extractLsb 27 0 = 0#28 :=
  formatFH_eq_iff

theorem encode_fire_eq_iff {side : Side} {r : Byte} :
    encode (.fire side r) = w ↔
      w.extractLsb 31 28 = 0x6#4 ∧ w.extractLsb 27 9 = 0#19 ∧ Side.ofBit (w.extractLsb 8 8) = side ∧
        w.extractLsb 7 0 = r := by
  rw [ofBit_eq_iff]
  exact formatFF_eq_iff

theorem encode_clrErr_eq_iff : encode .clrErr = w ↔ w.extractLsb 31 28 = 0x7#4 ∧ w.extractLsb 27 0 = 0#28 :=
  formatFH_eq_iff

/-! ### The decoder, by the OP field -/

theorem unlessReserved_eq_command_iff {n : Nat} {reserved : BitVec n} {c i : Instr} :
    unlessReserved reserved c = .command i ↔ reserved = 0#n ∧ c = i := by
  unfold unlessReserved
  split <;> simp_all

theorem unlessReserved_of_eq_zero {n : Nat} {reserved : BitVec n} (h : reserved = 0#n) (c : Instr) :
    unlessReserved reserved c = .command c := if_pos h

theorem unlessReserved_of_ne_zero {n : Nat} {reserved : BitVec n} (h : reserved ≠ 0#n) (c : Instr) :
    unlessReserved reserved c = .illegal .reservedBits := if_neg h

theorem decode_of_op_nop (h : w.extractLsb 31 28 = 0x0#4) : decode w = .command (.nop (w.extractLsb 27 0)) := by
  rw [decode, h]
  rfl

theorem decode_of_op_trigCos (h : w.extractLsb 31 28 = 0x1#4) :
    decode w = unlessReserved (w.extractLsb 27 16) (.trigCos (w.extractLsb 15 8) (w.extractLsb 7 0)) := by
  rw [decode, h]
  rfl

theorem decode_of_op_trigSin (h : w.extractLsb 31 28 = 0x2#4) :
    decode w = unlessReserved (w.extractLsb 27 16) (.trigSin (w.extractLsb 15 8) (w.extractLsb 7 0)) := by
  rw [decode, h]
  rfl

theorem decode_of_op_start (h : w.extractLsb 31 28 = 0x3#4) :
    decode w = unlessReserved (w.extractLsb 27 25)
      (.start (Side.ofBit (w.extractLsb 24 24)) (w.extractLsb 23 16) (w.extractLsb 15 0)) := by
  rw [decode, h]
  rfl

theorem decode_of_op_step (h : w.extractLsb 31 28 = 0x4#4) :
    decode w = unlessReserved (w.extractLsb 27 0) .step := by
  rw [decode, h]
  rfl

theorem decode_of_op_run (h : w.extractLsb 31 28 = 0x5#4) :
    decode w = unlessReserved (w.extractLsb 27 0) .run := by
  rw [decode, h]
  rfl

theorem decode_of_op_fire (h : w.extractLsb 31 28 = 0x6#4) :
    decode w = unlessReserved (w.extractLsb 27 9) (.fire (Side.ofBit (w.extractLsb 8 8)) (w.extractLsb 7 0)) := by
  rw [decode, h]
  rfl

theorem decode_of_op_clrErr (h : w.extractLsb 31 28 = 0x7#4) :
    decode w = unlessReserved (w.extractLsb 27 0) .clrErr := by
  rw [decode, h]
  rfl

theorem decode_of_op_reserved (h : 8 ≤ (w.extractLsb 31 28).toNat) : decode w = .illegal .reservedOpcode := by
  unfold decode
  split
  case h_9 => rfl
  all_goals omega

/-- The eight opcodes of R73, and the reserved ones. -/
theorem op_cases (op : BitVec 4) :
    op = 0x0#4 ∨ op = 0x1#4 ∨ op = 0x2#4 ∨ op = 0x3#4 ∨ op = 0x4#4 ∨ op = 0x5#4 ∨ op = 0x6#4 ∨ op = 0x7#4 ∨
      8 ≤ op.toNat := by bv_omega

end

/-! ### The decoder and the encoder are each other's inverse -/

/-- Settles O1: the fields of the encoded word are the operands, and its reserved field is zero. -/
theorem decodeOfEncodeIsTheCommand : Obligations.DecodeOfEncodeIsTheCommand := by
  intro i
  generalize hw : encode i = w
  cases i with
  | nop hint =>
    obtain ⟨hop, rfl⟩ := encode_nop_eq_iff.1 hw
    exact decode_of_op_nop hop
  | trigCos amp angle =>
    obtain ⟨hop, hres, rfl, rfl⟩ := encode_trigCos_eq_iff.1 hw
    exact (decode_of_op_trigCos hop).trans (unlessReserved_of_eq_zero hres _)
  | trigSin amp angle =>
    obtain ⟨hop, hres, rfl, rfl⟩ := encode_trigSin_eq_iff.1 hw
    exact (decode_of_op_trigSin hop).trans (unlessReserved_of_eq_zero hres _)
  | start side phase seed =>
    obtain ⟨hop, hres, rfl, rfl, rfl⟩ := encode_start_eq_iff.1 hw
    exact (decode_of_op_start hop).trans (unlessReserved_of_eq_zero hres _)
  | step =>
    obtain ⟨hop, hres⟩ := encode_step_eq_iff.1 hw
    exact (decode_of_op_step hop).trans (unlessReserved_of_eq_zero hres _)
  | run =>
    obtain ⟨hop, hres⟩ := encode_run_eq_iff.1 hw
    exact (decode_of_op_run hop).trans (unlessReserved_of_eq_zero hres _)
  | fire side r =>
    obtain ⟨hop, hres, rfl, rfl⟩ := encode_fire_eq_iff.1 hw
    exact (decode_of_op_fire hop).trans (unlessReserved_of_eq_zero hres _)
  | clrErr =>
    obtain ⟨hop, hres⟩ := encode_clrErr_eq_iff.1 hw
    exact (decode_of_op_clrErr hop).trans (unlessReserved_of_eq_zero hres _)

/-- Settles O2: the decoder accepts an opcode only with a zero reserved field, and takes every other field over. -/
theorem legalWordIsTheEncodingOfItsCommand : Obligations.LegalWordIsTheEncodingOfItsCommand := by
  intro w i h
  rcases op_cases (w.extractLsb 31 28) with hop | hop | hop | hop | hop | hop | hop | hop | hop
  · rw [decode_of_op_nop hop] at h; cases h
    exact encode_nop_eq_iff.2 ⟨hop, rfl⟩
  · obtain ⟨hres, rfl⟩ := unlessReserved_eq_command_iff.1 (decode_of_op_trigCos hop ▸ h)
    exact encode_trigCos_eq_iff.2 ⟨hop, hres, rfl, rfl⟩
  · obtain ⟨hres, rfl⟩ := unlessReserved_eq_command_iff.1 (decode_of_op_trigSin hop ▸ h)
    exact encode_trigSin_eq_iff.2 ⟨hop, hres, rfl, rfl⟩
  · obtain ⟨hres, rfl⟩ := unlessReserved_eq_command_iff.1 (decode_of_op_start hop ▸ h)
    exact encode_start_eq_iff.2 ⟨hop, hres, rfl, rfl, rfl⟩
  · obtain ⟨hres, rfl⟩ := unlessReserved_eq_command_iff.1 (decode_of_op_step hop ▸ h)
    exact encode_step_eq_iff.2 ⟨hop, hres⟩
  · obtain ⟨hres, rfl⟩ := unlessReserved_eq_command_iff.1 (decode_of_op_run hop ▸ h)
    exact encode_run_eq_iff.2 ⟨hop, hres⟩
  · obtain ⟨hres, rfl⟩ := unlessReserved_eq_command_iff.1 (decode_of_op_fire hop ▸ h)
    exact encode_fire_eq_iff.2 ⟨hop, hres, rfl, rfl⟩
  · obtain ⟨hres, rfl⟩ := unlessReserved_eq_command_iff.1 (decode_of_op_clrErr hop ▸ h)
    exact encode_clrErr_eq_iff.2 ⟨hop, hres⟩
  · rw [decode_of_op_reserved hop] at h
    cases h

/-! ### The opcode map

A row's mask is 1 in the OP and in the reserved field below it, so the row selects the words with its OP and with that
field zero. -/

theorem row_mem_opTable : ∀ i : Instr, i.row ∈ opTable
  | .nop hint => (Laws.RowMatch.nop hint).1
  | .trigCos amp angle => (Laws.RowMatch.trigCos amp angle).1
  | .trigSin amp angle => (Laws.RowMatch.trigSin amp angle).1
  | .start side phase seed => (Laws.RowMatch.start side phase seed).1
  | .step => Laws.RowMatch.step.1
  | .run => Laws.RowMatch.run.1
  | .fire side r => (Laws.RowMatch.fire side r).1
  | .clrErr => Laws.RowMatch.clrErr.1

theorem exists_row_of_mem_opTable {r : OpRow} (h : r ∈ opTable) : ∃ i : Instr, i.row = r := by
  obtain ⟨i, -, hi⟩ : ∃ i ∈ [Instr.nop 0, .trigCos 0 0, .trigSin 0 0, .start .left 0 0, .step, .run, .fire .left 0,
    .clrErr], i.row = r := List.mem_map.1 h
  exact ⟨i, hi⟩

section

variable {w : Word}

theorem nop_row_selects_iff {hint : BitVec 28} :
    (Instr.nop hint).row.selects w = true ↔ w.extractLsb 31 28 = 0x0#4 :=
  beq_iff_eq.trans (and_upperMask_eq_iff (m := 4) (n := 28) w 0x0#4)

theorem trigCos_row_selects_iff {amp angle : Byte} :
    (Instr.trigCos amp angle).row.selects w = true ↔ w.extractLsb 31 28 = 0x1#4 ∧ w.extractLsb 27 16 = 0#12 :=
  beq_iff_eq.trans (and_twoFieldMask_eq_iff (k := 4) (m := 12) (n := 16) w 0x1#4 0#12)

theorem trigSin_row_selects_iff {amp angle : Byte} :
    (Instr.trigSin amp angle).row.selects w = true ↔ w.extractLsb 31 28 = 0x2#4 ∧ w.extractLsb 27 16 = 0#12 :=
  beq_iff_eq.trans (and_twoFieldMask_eq_iff (k := 4) (m := 12) (n := 16) w 0x2#4 0#12)

theorem start_row_selects_iff {side : Side} {phase : Byte} {seed : Half} :
    (Instr.start side phase seed).row.selects w = true ↔ w.extractLsb 31 28 = 0x3#4 ∧ w.extractLsb 27 25 = 0#3 :=
  beq_iff_eq.trans (and_twoFieldMask_eq_iff (k := 4) (m := 3) (n := 25) w 0x3#4 0#3)

theorem step_row_selects_iff :
    Instr.step.row.selects w = true ↔ w.extractLsb 31 28 = 0x4#4 ∧ w.extractLsb 27 0 = 0#28 :=
  beq_iff_eq.trans (and_twoFieldMask_eq_iff (k := 4) (m := 28) (n := 0) w 0x4#4 0#28)

theorem run_row_selects_iff :
    Instr.run.row.selects w = true ↔ w.extractLsb 31 28 = 0x5#4 ∧ w.extractLsb 27 0 = 0#28 :=
  beq_iff_eq.trans (and_twoFieldMask_eq_iff (k := 4) (m := 28) (n := 0) w 0x5#4 0#28)

theorem fire_row_selects_iff {side : Side} {r : Byte} :
    (Instr.fire side r).row.selects w = true ↔ w.extractLsb 31 28 = 0x6#4 ∧ w.extractLsb 27 9 = 0#19 :=
  beq_iff_eq.trans (and_twoFieldMask_eq_iff (k := 4) (m := 19) (n := 9) w 0x6#4 0#19)

theorem clrErr_row_selects_iff :
    Instr.clrErr.row.selects w = true ↔ w.extractLsb 31 28 = 0x7#4 ∧ w.extractLsb 27 0 = 0#28 :=
  beq_iff_eq.trans (and_twoFieldMask_eq_iff (k := 4) (m := 28) (n := 0) w 0x7#4 0#28)

/-- A command's word selects its row. -/
theorem row_selects_encode {i : Instr} (h : encode i = w) : i.row.selects w = true := by
  cases i with
  | nop hint =>
    obtain ⟨hop, -⟩ := encode_nop_eq_iff.1 h
    exact nop_row_selects_iff.2 hop
  | trigCos amp angle =>
    obtain ⟨hop, hres, -⟩ := encode_trigCos_eq_iff.1 h
    exact trigCos_row_selects_iff.2 ⟨hop, hres⟩
  | trigSin amp angle =>
    obtain ⟨hop, hres, -⟩ := encode_trigSin_eq_iff.1 h
    exact trigSin_row_selects_iff.2 ⟨hop, hres⟩
  | start side phase seed =>
    obtain ⟨hop, hres, -⟩ := encode_start_eq_iff.1 h
    exact start_row_selects_iff.2 ⟨hop, hres⟩
  | step => exact step_row_selects_iff.2 (encode_step_eq_iff.1 h)
  | run => exact run_row_selects_iff.2 (encode_run_eq_iff.1 h)
  | fire side r =>
    obtain ⟨hop, hres, -⟩ := encode_fire_eq_iff.1 h
    exact fire_row_selects_iff.2 ⟨hop, hres⟩
  | clrErr => exact clrErr_row_selects_iff.2 (encode_clrErr_eq_iff.1 h)

/-- A word that selects a command's row is the word of some command of that row, with the word's own operands. -/
theorem exists_encode_of_row_selects {i : Instr} (h : i.row.selects w = true) :
    ∃ j, encode j = w ∧ j.row = i.row := by
  cases i with
  | nop hint => exact ⟨.nop _, encode_nop_eq_iff.2 ⟨nop_row_selects_iff.1 h, rfl⟩, rfl⟩
  | trigCos amp angle =>
    obtain ⟨hop, hres⟩ := trigCos_row_selects_iff.1 h
    exact ⟨.trigCos _ _, encode_trigCos_eq_iff.2 ⟨hop, hres, rfl, rfl⟩, rfl⟩
  | trigSin amp angle =>
    obtain ⟨hop, hres⟩ := trigSin_row_selects_iff.1 h
    exact ⟨.trigSin _ _, encode_trigSin_eq_iff.2 ⟨hop, hres, rfl, rfl⟩, rfl⟩
  | start side phase seed =>
    obtain ⟨hop, hres⟩ := start_row_selects_iff.1 h
    exact ⟨.start _ _ _, encode_start_eq_iff.2 ⟨hop, hres, rfl, rfl, rfl⟩, rfl⟩
  | step => exact ⟨.step, encode_step_eq_iff.2 (step_row_selects_iff.1 h), rfl⟩
  | run => exact ⟨.run, encode_run_eq_iff.2 (run_row_selects_iff.1 h), rfl⟩
  | fire side r =>
    obtain ⟨hop, hres⟩ := fire_row_selects_iff.1 h
    exact ⟨.fire _ _, encode_fire_eq_iff.2 ⟨hop, hres, rfl, rfl⟩, rfl⟩
  | clrErr => exact ⟨.clrErr, encode_clrErr_eq_iff.2 (clrErr_row_selects_iff.1 h), rfl⟩

theorem exists_command_of_selects {r : OpRow} (hr : r ∈ opTable) (h : r.selects w = true) :
    ∃ i, decode w = .command i ∧ i.row = r := by
  obtain ⟨i, rfl⟩ := exists_row_of_mem_opTable hr
  obtain ⟨j, rfl, hj⟩ := exists_encode_of_row_selects h
  exact ⟨j, decodeOfEncodeIsTheCommand j, hj⟩

end

/-- Settles O3: a row selects exactly the words of its commands, and the decoder finds one command for a word. -/
theorem opcodeMapSelectsExactlyTheDecodedRow : Obligations.OpcodeMapSelectsExactlyTheDecodedRow := by
  refine ⟨rfl, fun w i h => ⟨row_mem_opTable i, row_selects_encode (legalWordIsTheEncodingOfItsCommand w i h)⟩,
    fun w r hr h => exists_command_of_selects hr h, fun w r₁ r₂ hr₁ hr₂ h₁ h₂ => ?_⟩
  obtain ⟨i, hi, rfl⟩ := exists_command_of_selects hr₁ h₁
  obtain ⟨j, hj, rfl⟩ := exists_command_of_selects hr₂ h₂
  obtain rfl : i = j := Verdict.command.inj (hi.symm.trans hj)
  rfl

/-! ### The assembler -/

theorem assemble_eq_none_iff (a : AsmCmd) : assemble a = none ↔ a.fits = false := by
  simp [assemble]

theorem assemble_eq_some_iff {a : AsmCmd} {w : Word} :
    assemble a = some w ↔ a.fits = true ∧ encode a.command = w := by
  simp [assemble]

theorem encode_trigCos_toNat (amp angle : Byte) :
    (encode (.trigCos amp angle)).toNat = 0x10000000 + 256 * amp.toNat + angle.toNat := by
  simp only [encode, toNat_append_eq_add, BitVec.toNat_ofNat]
  omega

theorem encode_trigSin_toNat (amp angle : Byte) :
    (encode (.trigSin amp angle)).toNat = 0x20000000 + 256 * amp.toNat + angle.toNat := by
  simp only [encode, toNat_append_eq_add, BitVec.toNat_ofNat]
  omega

theorem encode_start_toNat (side : Side) (phase : Byte) (seed : Half) :
    (encode (.start side phase seed)).toNat =
      0x30000000 + 2 ^ 24 * side.bit.toNat + 2 ^ 16 * phase.toNat + seed.toNat := by
  simp only [encode, toNat_append_eq_add, BitVec.toNat_ofNat]
  omega

theorem encode_fire_toNat (side : Side) (r : Byte) :
    (encode (.fire side r)).toNat = 0x60000000 + 256 * side.bit.toNat + r.toNat := by
  simp only [encode, toNat_append_eq_add, BitVec.toNat_ofNat]
  omega

theorem encode_nop_toNat (hint : BitVec 28) : (encode (.nop hint)).toNat = hint.toNat := by
  simp only [encode, toNat_append_eq_add, BitVec.toNat_ofNat]
  omega

/-- Settles O6: an operand below the size of its field is its own remainder there. -/
theorem assemblerPlacesOperandsOrRefuses : Obligations.AssemblerPlacesOperandsOrRefuses := by
  refine ⟨assemble_eq_none_iff, fun a w h => ?_, fun amp angle w h => ?_, fun amp angle w h => ?_,
    fun side phase seed w h => ?_, fun side r w h => ?_, fun imm w h => ?_⟩ <;>
    obtain ⟨hfits, rfl⟩ := assemble_eq_some_iff.1 h
  · exact decodeOfEncodeIsTheCommand a.command
  all_goals simp only [AsmCmd.fits, Bool.and_eq_true, decide_eq_true_eq] at hfits
  · rw [AsmCmd.command, encode_trigCos_toNat, BitVec.toNat_ofNat, BitVec.toNat_ofNat]
    omega
  · rw [AsmCmd.command, encode_trigSin_toNat, BitVec.toNat_ofNat, BitVec.toNat_ofNat]
    omega
  · rw [AsmCmd.command, encode_start_toNat, bit_ofBit, BitVec.toNat_ofNat, BitVec.toNat_ofNat, BitVec.toNat_ofNat]
    omega
  · rw [AsmCmd.command, encode_fire_toNat, bit_ofBit, BitVec.toNat_ofNat, BitVec.toNat_ofNat]
    omega
  · rw [AsmCmd.command, encode_nop_toNat, BitVec.toNat_ofNat]
    omega

end Sys2Proof

namespace Sys2Proof.Machine

/-! ### The write of CMD, and NOP -/

theorem raiseError_eq (e : Err) (s : State) : raiseError e s = { s with err := recorded e s.err } := by
  unfold raiseError recorded
  split <;> rfl

/-- A write the interface can express is one step (R51, R172, R174 to R176). -/
theorem step_of_write {s : State} {off : Nat} {v : Word} {rest : List Event}
    (hev : s.events = .access ⟨s.cfg.blockBase + off, 32, .write v⟩ :: rest) (hlt : off < 0x40) (h4 : off % 4 = 0) :
    step s = .next (hostWrite off v (s.withEvents rest)) := by
  rw [step_of_access hev, access, withEvents_cfg, decodeAccess_of_offset hlt h4]

/-- An idle block records ILLEGAL_CMD for a word that is ILLEGAL, and does nothing else (R172, R194). -/
theorem offer_of_illegal {w : Word} {why : Illegal} {s : State} (hidle : s.busy = false)
    (h : decode w = .illegal why) : offer w s = raiseError .illegalCmd s := by
  simp [offer, hidle, h]

theorem exec_nop (hint : BitVec 28) (s : State) : exec (.nop hint) s = .next s.complete := rfl

end Sys2Proof.Machine

namespace Sys2Proof

open Sys2Proof.Machine

/-- Settles O11: each of the words named is ILLEGAL, and the write of an ILLEGAL word to CMD records the error. -/
theorem illegalWordsRaiseIllegalCmd : Obligations.IllegalWordsRaiseIllegalCmd := by
  refine ⟨rfl, fun s w rest hev hidle hw => ?_⟩
  have hillegal : ∃ why, decode w = .illegal why := by
    rcases hw with hop | ⟨hop | hop, hres⟩ | ⟨hop, hres⟩ | ⟨hop | hop | hop, hres⟩ | ⟨hop, hres⟩
    · exact ⟨_, decode_of_op_reserved hop⟩
    · exact ⟨_, (decode_of_op_trigCos (BitVec.eq_of_toNat_eq hop)).trans (unlessReserved_of_ne_zero hres _)⟩
    · exact ⟨_, (decode_of_op_trigSin (BitVec.eq_of_toNat_eq hop)).trans (unlessReserved_of_ne_zero hres _)⟩
    · exact ⟨_, (decode_of_op_start (BitVec.eq_of_toNat_eq hop)).trans (unlessReserved_of_ne_zero hres _)⟩
    · exact ⟨_, (decode_of_op_step (BitVec.eq_of_toNat_eq hop)).trans (unlessReserved_of_ne_zero hres _)⟩
    · exact ⟨_, (decode_of_op_run (BitVec.eq_of_toNat_eq hop)).trans (unlessReserved_of_ne_zero hres _)⟩
    · exact ⟨_, (decode_of_op_clrErr (BitVec.eq_of_toNat_eq hop)).trans (unlessReserved_of_ne_zero hres _)⟩
    · exact ⟨_, (decode_of_op_fire (BitVec.eq_of_toNat_eq hop)).trans (unlessReserved_of_ne_zero hres _)⟩
  obtain ⟨why, hwhy⟩ := hillegal
  have hoffer : offer w (s.withEvents rest) = raiseError .illegalCmd (s.withEvents rest) :=
    offer_of_illegal hidle hwhy
  rw [step_of_write hev (by decide) (by decide), hostWrite, hoffer, raiseError_eq]
  rfl

/-- Settles O4: the decoder is evaluated on the eleven words. -/
theorem sampleWordsDecode : Obligations.SampleWordsDecode := by
  unfold Obligations.SampleWordsDecode
  decide

/-- Settles O5: the hint is bits [27:0] of the word, and a NOP only completes. -/
theorem everyHintWordExecutesAsNop : Obligations.EveryHintWordExecutesAsNop := by
  intro w hop
  refine ⟨w.extractLsb 27 0, decode_of_op_nop hop, fun s => ⟨?_, exec_nop _ s⟩⟩
  rw [exec_nop, exec_nop]

end Sys2Proof

/-! SUPPORT. The trig unit in numbers (40_trig.md R91 to R104): the product, its two parts and the result word by their
values, the negate bit by the range of the angle; O28 to O33 from them. -/

namespace Sys2Proof.Machine

/-! ### The parts of a 16.16 and of an 8.8 value -/

theorem highByte_toNat (P : Half) : (highByte P).toNat = P.toNat / 256 := by
  rw [highByte, BitVec.extractLsb_toNat, Nat.shiftRight_eq_div_pow]
  omega

theorem lowByte_toNat (P : Half) : (lowByte P).toNat = P.toNat % 256 := by
  simp [lowByte, BitVec.extractLsb_toNat]

theorem intPart_toNat (w : Word) : (intPart w).toNat = w.toNat / 65536 := by
  rw [intPart, BitVec.extractLsb_toNat, Nat.shiftRight_eq_div_pow]
  omega

theorem neg16_toNat (v : Half) : (neg16 v).toNat = (65536 - v.toNat) % 65536 := by
  simp [neg16]

theorem intPart_append (I F : Half) : intPart (I ++ F) = I := by
  apply BitVec.eq_of_toNat_eq
  rw [intPart_toNat, toNat_append_eq_add]
  omega

theorem highByte_eq_zero_iff {P : Half} : highByte P = 0 ↔ P.toNat / 256 = 0 := by
  rw [← BitVec.toNat_inj, highByte_toNat]
  rfl

theorem lowByte_eq_zero_iff {P : Half} : lowByte P = 0 ↔ P.toNat % 256 = 0 := by
  rw [← BitVec.toNat_inj, lowByte_toNat]
  rfl

theorem bit7_iff (b : Byte) : b.getLsbD 7 = true ↔ 0x80 ≤ b.toNat := by
  rw [← BitVec.msb_eq_getLsbD_last b, BitVec.msb_eq_decide, decide_eq_true_eq]

/-! ### The product and the negate bit (R91 to R95) -/

theorem product_toNat (p : Params) (k : TrigKind) (amp θ : Byte) :
    (product p k amp θ).toNat = amp.toNat * (lut p (sineAngle k θ)).toNat := by
  have hlt : amp.toNat * (lut p (sineAngle k θ)).toNat < 2 ^ 8 * 2 ^ 8 :=
    Nat.mul_lt_mul'' amp.isLt (lut p (sineAngle k θ)).isLt
  rw [product, BitVec.toNat_mul, BitVec.toNat_setWidth_of_le (by decide), BitVec.toNat_setWidth_of_le (by decide)]
  exact Nat.mod_eq_of_lt hlt

/-- "Its maximum is 0xFF x 0xFF = 0xFE01" (R93). -/
theorem product_toNat_le (p : Params) (k : TrigKind) (amp θ : Byte) : (product p k amp θ).toNat ≤ 0xFE01 := by
  rw [product_toNat]
  exact Nat.mul_le_mul (Nat.le_of_lt_succ amp.isLt) (Nat.le_of_lt_succ (lut p (sineAngle k θ)).isLt)

theorem productInt_toNat (P : Half) : (productInt P).toNat = P.toNat / 256 := by
  rw [productInt, BitVec.toNat_setWidth_of_le (by decide), highByte_toNat]

theorem productFrac_toNat (P : Half) : (productFrac P).toNat = P.toNat % 256 * 256 := by
  rw [productFrac, toNat_append_eq_add, lowByte_toNat, BitVec.toNat_ofNat]
  omega

theorem negates_of_shifted {p : Params} (h : p.signSrc = .shifted) (k : TrigKind) (θ : Byte) :
    negates p k θ = (sineAngle k θ).getLsbD 7 := by
  simp only [negates, h]

theorem negates_of_unshifted {p : Params} (h : p.signSrc = .unshifted) (k : TrigKind) (θ : Byte) :
    negates p k θ = θ.getLsbD 7 := by
  simp only [negates, h]

theorem negates_cos_iff (p : Params) (θ : Byte) :
    negates p .cos θ = true ↔ if p.signSrc = .shifted then 0x80 ≤ (θ + 0x40).toNat else 0x80 ≤ θ.toNat := by
  cases h : p.signSrc
  · rw [negates_of_shifted h, if_pos rfl]
    exact bit7_iff _
  · rw [negates_of_unshifted h, if_neg (by decide)]
    exact bit7_iff θ

/-- For the sine the two sign sources agree (R95). -/
theorem negates_sin (p : Params) (θ : Byte) : negates p .sin θ = θ.getLsbD 7 := by
  cases h : p.signSrc
  · exact negates_of_shifted h .sin θ
  · exact negates_of_unshifted h .sin θ

/-! ### The result word (R96, R97) -/

/-- A combined negation borrows one from the integer part for the fraction (R98). -/
theorem intPart_neg_of_frac_ne_zero {P : Half} (hfrac : P.toNat % 256 ≠ 0) :
    intPart (0 - (productInt P ++ productFrac P)) = neg16 (productInt P + 1) := by
  apply BitVec.eq_of_toNat_eq
  rw [intPart_toNat, BitVec.toNat_sub, toNat_append_eq_add, productFrac_toNat, neg16_toNat, BitVec.toNat_add,
    productInt_toNat]
  simp only [BitVec.ofNat_eq_ofNat, BitVec.toNat_ofNat]
  omega

/-- Bits [15:8] of a result give back the byte at the top of a negated fraction (R103). -/
theorem entry_eq_neg_of_negated_frac (I : Half) (m : Byte) :
    m = 0 - (I ++ neg16 (m ++ 0x00#8) : Word).extractLsb 15 8 := by
  apply BitVec.eq_of_toNat_eq
  rw [BitVec.toNat_sub, BitVec.extractLsb_toNat, toNat_append_eq_add, neg16_toNat, toNat_append_eq_add,
    Nat.shiftRight_eq_div_pow]
  simp only [BitVec.ofNat_eq_ofNat, BitVec.toNat_ofNat]
  omega

section

variable {p : Params} {k : TrigKind} {θ : Byte}

theorem trig_of_not_negates (h : negates p k θ = false) (amp : Byte) :
    trig p k amp θ = productInt (product p k amp θ) ++ productFrac (product p k amp θ) := by
  simp [trig, h]

theorem trig_of_negates (h : negates p k θ = true) (amp : Byte) :
    trig p k amp θ = neg16 (productInt (product p k amp θ)) ++ neg16 (productFrac (product p k amp θ)) := by
  simp [trig, h]

theorem trig_toNat_of_not_negates (h : negates p k θ = false) (amp : Byte) :
    (trig p k amp θ).toNat =
      65536 * ((product p k amp θ).toNat / 256) + (product p k amp θ).toNat % 256 * 256 := by
  rw [trig_of_not_negates h, toNat_append_eq_add, productInt_toNat, productFrac_toNat]
  omega

theorem trig_toNat_of_negates (h : negates p k θ = true) (amp : Byte) :
    (trig p k amp θ).toNat =
      65536 * ((65536 - (product p k amp θ).toNat / 256) % 65536) +
        (65536 - (product p k amp θ).toNat % 256 * 256) % 65536 := by
  rw [trig_of_negates h, toNat_append_eq_add, neg16_toNat, neg16_toNat, productInt_toNat, productFrac_toNat]
  omega

theorem intPart_trig_of_negates (h : negates p k θ = true) (amp : Byte) :
    intPart (trig p k amp θ) = neg16 (productInt (product p k amp θ)) := by
  rw [trig_of_negates h, intPart_append]

/-- Without a fraction the split negation is the true one (R98). -/
theorem trig_toInt_of_frac_zero (h : negates p k θ = true) {amp : Byte}
    (hfrac : (product p k amp θ).toNat % 256 = 0) :
    (trig p k amp θ).toInt = -(256 * ((product p k amp θ).toNat : Int)) := by
  rw [BitVec.toInt_eq_toNat_cond, trig_toNat_of_negates h]
  split <;> omega

/-- A fraction makes the split negation one unit greater than the true one: no borrow reaches the integer part (R98). -/
theorem trig_toInt_of_frac_ne_zero (h : negates p k θ = true) {amp : Byte}
    (hfrac : (product p k amp θ).toNat % 256 ≠ 0) :
    (trig p k amp θ).toInt = -(256 * ((product p k amp θ).toNat : Int)) + 65536 := by
  rw [BitVec.toInt_eq_toNat_cond, trig_toNat_of_negates h]
  split <;> omega

end

theorem exec_trigCos (amp angle : Byte) (s : State) :
    exec (.trigCos amp angle) s = .next { s with trigResult := trig s.cfg .cos amp angle, eng := .idle } := rfl

theorem exec_trigSin (amp angle : Byte) (s : State) :
    exec (.trigSin amp angle) s = .next { s with trigResult := trig s.cfg .sin amp angle, eng := .idle } := rfl

end Sys2Proof.Machine

namespace Sys2Proof

open Sys2Proof.Machine

/-- Settles O28: the value of the result word, with the product's value and the negate bit's range put in. -/
theorem trigCommandsWriteTheSplitNegatedProduct : Obligations.TrigCommandsWriteTheSplitNegatedProduct := by
  intro s amp angle
  refine ⟨⟨_, exec_trigCos amp angle s, fun hn => ?_, fun hn => ?_⟩,
    ⟨_, exec_trigSin amp angle s, fun hn => ?_, fun hn => ?_⟩⟩
  · rw [← negates_cos_iff, Bool.not_eq_true] at hn
    rw [trig_toNat_of_not_negates hn, product_toNat]
    rfl
  · rw [← negates_cos_iff] at hn
    rw [trig_toNat_of_negates hn, product_toNat]
    rfl
  · rw [← Nat.not_le, ← bit7_iff, ← negates_sin s.cfg, Bool.not_eq_true] at hn
    rw [trig_toNat_of_not_negates hn, product_toNat]
    rfl
  · rw [← bit7_iff, ← negates_sin s.cfg] at hn
    rw [trig_toNat_of_negates hn, product_toNat]
    rfl

/-- Settles O29: with a fraction the combined negation borrows one from the integer part, and the split one does not. -/
theorem splitNegationIsOneAboveTheTrueNegation : Obligations.SplitNegationIsOneAboveTheTrueNegation := by
  intro p k amp θ hn
  refine ⟨fun hfrac => trig_toInt_of_frac_zero hn (lowByte_eq_zero_iff.1 hfrac), fun hfrac => ?_⟩
  rw [Ne, lowByte_eq_zero_iff] at hfrac
  exact ⟨trig_toInt_of_frac_ne_zero hn hfrac, intPart_trig_of_negates hn amp, intPart_neg_of_frac_ne_zero hfrac⟩

/-- Settles O30: the integer part 0 is its own negation, so that only the unit of R98 is left of it. -/
theorem splitNegationOfAFractionIsPositive : Obligations.SplitNegationOfAFractionIsPositive := by
  intro p k amp θ hn hint hfrac
  have hword : trig p k amp θ = 0x0000#16 ++ neg16 (lowByte (product p k amp θ) ++ 0x00#8) := by
    rw [trig_of_negates hn, productInt, hint]
    rfl
  rw [highByte_eq_zero_iff] at hint
  rw [Ne, lowByte_eq_zero_iff] at hfrac
  have hvalue := trig_toInt_of_frac_ne_zero hn hfrac
  exact ⟨hword, by omega, by omega⟩

/-- Settles O31: the bounds are those of the product, whose integer part is at most 0xFE, and of its negation. -/
theorem trigResultRange : Obligations.TrigResultRange := by
  intro p k amp θ
  have hle := product_toNat_le p k amp θ
  refine ⟨trig_lowByte p k amp θ, fun hn => ?_, fun hn => ?_, ?_⟩
  · rw [trig_of_not_negates hn, intPart_append, productInt_toNat]
    omega
  · rw [intPart_trig_of_negates hn, highByte_eq_zero_iff, ← BitVec.toNat_inj, neg16_toNat, productInt_toNat]
    change _ = 0 ∧ _ ∨ _
    omega
  · rw [← BitVec.toNat_inj, ← BitVec.toNat_inj]
    change _ = 0 ↔ _ = 0
    cases hn : negates p k θ
    · rw [trig_toNat_of_not_negates hn]
      omega
    · rw [trig_toNat_of_negates hn]
      omega

/-- Settles O32: the product with amplitude 1 is the table entry, which is all fraction. -/
theorem sineWithAmplitudeOneReadsTheTable : Obligations.SineWithAmplitudeOneReadsTheTable := by
  intro st s
  have hproduct : (product st.cfg .sin 0x01 s).toNat = (lut st.cfg s).toNat := by
    rw [product_toNat]
    exact Nat.one_mul _
  have hint : productInt (product st.cfg .sin 0x01 s) = 0 := by
    apply BitVec.eq_of_toNat_eq
    rw [productInt_toNat, hproduct]
    exact Nat.div_eq_of_lt (lut st.cfg s).isLt
  have hfrac : productFrac (product st.cfg .sin 0x01 s) = lut st.cfg s ++ 0x00#8 := by
    apply BitVec.eq_of_toNat_eq
    rw [productFrac_toNat, hproduct, toNat_append_eq_add, BitVec.toNat_ofNat]
    omega
  refine ⟨_, exec_trigSin 0x01 s st, fun hs => ?_, fun hs => ?_⟩
  · rw [trig_of_not_negates ((negates_sin _ _).trans hs), hint, hfrac]
    rfl
  · rw [trig_of_negates ((negates_sin _ _).trans hs), hint, hfrac]
    exact ⟨rfl, entry_eq_neg_of_negated_frac _ _⟩

/-- Settles O33: SHIFTED looks at bit 7 of the cosine's angle after a quarter turn, which bit 6 of the angle flips. -/
theorem signSourcesDifferExactlyForCosineWithBitSix : Obligations.SignSourcesDifferExactlyForCosineWithBitSix := by
  refine ⟨fun p k θ => ?_, fun p amp θ hp => ?_⟩
  · cases k with
    | sin => simp [negates_sin]
    | cos =>
      have hquarter : (sineAngle .cos θ).toNat = (θ.toNat + 0x40) % 0x100 := BitVec.toNat_add θ quarter
      rw [Ne, Bool.eq_iff_iff, negates_of_shifted rfl, negates_of_unshifted rfl, bit7_iff, bit7_iff, hquarter]
      simp only [true_and]
      omega
  · have hangle : sineAngle .cos (θ - 0x40) = sineAngle .sin θ := BitVec.sub_add_cancel θ 0x40
    have hproduct : product p .cos amp (θ - 0x40) = product p .sin amp θ := by simp only [product, hangle]
    have hnegates : negates p .cos (θ - 0x40) = negates p .sin θ := by
      rw [negates_of_shifted hp, negates_of_shifted hp, hangle]
    simp only [trig, hproduct, hnegates]

end Sys2Proof

/-! SUPPORT. START's initial state (41_encounter.md R110) and the refusal of STEP and RUN without a trial (R135): O34
and O37. -/

namespace Sys2Proof.Machine

/-- A refused STEP or RUN on an idle block changes ERRCODE alone (R135, R193). -/
theorem refuseInactive_of_idle {s : State} (h : s.eng = .idle) :
    refuseInactive s = { s with err := recorded .notActive s.err } := by
  rw [refuseInactive, raiseError_eq, State.complete, ← h]

/-- The write of STEP or RUN to CMD of an idle block without a trial (R172). -/
theorem offer_of_needsTrial {w : Word} {c : Instr} {s : State} (hd : decode w = .command c) (hn : needsTrial c = true)
    (ha : s.active = false) (hidle : s.busy = false) : offer w s = raiseError .notActive s := by
  simp [offer, hd, hn, ha, hidle]

end Sys2Proof.Machine

namespace Sys2Proof

open Sys2Proof.Machine

/-- Settles O34: the two ways of `exec_start_cases`, their states written out. -/
theorem startGivesTheInitialEncounterState : Obligations.StartGivesTheInitialEncounterState := by
  intro s side phase seed
  rcases exec_start_cases side phase seed s with ⟨ha, e⟩ | ⟨ha, e⟩
  · refine ⟨fun _ => ?_, fun hn => absurd (ha.symm.trans hn) (by simp)⟩
    rw [e]
    cases side <;> rfl
  · exact ⟨fun hn => absurd (ha.symm.trans hn) (by simp), fun _ => e⟩

/-- Settles O37: both words decode to a command that needs a trial, and the refusal by the engine is the same. -/
theorem stepAndRunWithoutATrialAreRefused : Obligations.StepAndRunWithoutATrialAreRefused := by
  refine ⟨rfl, fun s rest w ha hidle hw => ?_⟩
  have hcommand : ∃ c, decode w = .command c ∧ needsTrial c = true := by
    rcases hw with rfl | rfl
    · exact ⟨.step, by decide, rfl⟩
    · exact ⟨.run, by decide, rfl⟩
  obtain ⟨c, hd, hn⟩ := hcommand
  refine ⟨fun hev => ?_, ?_, ?_⟩
  · have hwrite : hostWrite 0x00 w (s.withEvents rest) = raiseError .notActive (s.withEvents rest) :=
      offer_of_needsTrial hd hn ha (busy_eq_false_iff _ |>.2 hidle)
    rw [step_of_write hev (by decide) (by decide), hwrite, raiseError_eq]
    rfl
  · rw [exec_refused (.inl rfl) ha, refuseInactive_of_idle hidle]
  · rw [exec_refused (.inr rfl) ha, refuseInactive_of_idle hidle]

end Sys2Proof

/-! SUPPORT. What no step of a frame reads: ENG and bit 7 of GT (41_encounter.md R128); O53 from it, and that a frame
runs alike whatever command stands in ENG. -/

namespace Sys2Proof.Machine

/-! ### What no frame reads

A frame reads neither ENG nor bit 7 of GT: a state that differs from another in these alone has the same frame. -/

/-- GT with the mask `b` flipped, and ENG changed by `g`. -/
def State.disguise (b : Byte) (g : Eng → Eng) (s : State) : State := { s with gt := s.gt ^^^ b, eng := g s.eng }

/-- A function on the state that a result carries. -/
def FrameResult.map (f : State → State) : FrameResult → FrameResult
  | .cont s => .cont (f s)
  | .terminated s => .terminated (f s)
  | .hang s => .hang (f s)

/-- A function on the state that a reply carries. -/
def Reply.map (f : State → State) : Reply → Reply
  | .answered b s => .answered b (f s)
  | .never s => .never (f s)

/-- A function on the state that a shot carries. -/
def Shot.map (f : State → State) : Shot → Shot
  | .hit s => .hit (f s)
  | .miss s => .miss (f s)
  | .never s => .never (f s)

/-- Two parts of a frame that pass `f` on, one after the other. -/
theorem map_andThen {f : State → State} {r r' : FrameResult} {k : State → FrameResult} (hr : r' = r.map f)
    (hk : ∀ u, k (f u) = (k u).map f) : r'.andThen k = (r.andThen k).map f := by
  subst hr
  cases r with
  | cont u => exact hk u
  | terminated u => rfl
  | hang u => rfl

/-- A choice that does not see `f` passes it on where both its arms do. -/
theorem ite_eq_map {α β : Type} {p p' : Prop} [Decidable p] [Decidable p'] {f : α → β} {x y : α} {x' y' : β}
    (hp : p' ↔ p) (hx : x' = f x) (hy : y' = f y) : (if p' then x' else y') = f (if p then x else y) :=
  (if_congr hp hx hy).trans (apply_ite f p x y).symm

theorem complete_eq_disguise (s : State) : s.complete = s.disguise 0 fun _ => .idle := by
  simp [State.complete, State.disguise]

section

variable (b : Byte) (g : Eng → Eng) (s : State)

theorem ask_disguise (q : RngReq) : ask q (s.disguise b g) = (ask q s).map (State.disguise b g) :=
  ite_eq_map .rfl rfl rfl

theorem draw_disguise (site : Site) : draw site (s.disguise b g) = (draw site s).map (State.disguise b g) :=
  ask_disguise b g s _

theorem drawDiscard_disguise (site : Site) :
    drawDiscard site (s.disguise b g) = (drawDiscard site s).map (State.disguise b g) := by
  rw [drawDiscard, drawDiscard, draw_disguise]
  cases draw site s <;> rfl

theorem arm_disguise (r : Byte) : arm r (s.disguise b g) = (arm r s).disguise b g :=
  ite_eq_map (f := State.disguise b g) .rfl rfl rfl

theorem inRangeStep_disguise : inRangeStep (s.disguise b g) = (inRangeStep s).map (State.disguise b g) := by
  rw [inRangeStep, inRangeStep, draw_disguise]
  cases draw .arm s with
  | answered r t => exact congrArg (fun u => FrameResult.cont u.move) (arm_disguise b g t r)
  | never t => rfl

theorem approachStep_disguise : approachStep (s.disguise b g) = (approachStep s).disguise b g :=
  ite_eq_map (f := State.disguise b g) .rfl rfl rfl

theorem rangeStep_disguise : rangeStep (s.disguise b g) = (rangeStep s).map (State.disguise b g) :=
  ite_eq_map .rfl (inRangeStep_disguise b g s) (congrArg FrameResult.cont (approachStep_disguise b g s))

theorem fireTest_disguise (side : Side) (r : Byte) (src : FireSrc) :
    fireTest side r src (s.disguise b g) = (fireTest side r src s).map (Prod.map id (State.disguise b g)) := by
  have h : proj (s.disguise b g).cfg (s.disguise b g).x (s.disguise b g).y side (s.disguise b g).tx
    (s.disguise b g).ty r = proj s.cfg s.x s.y side s.tx s.ty r := rfl
  rw [fireTest, fireTest, h]
  cases proj s.cfg s.x s.y side s.tx s.ty r <;> rfl

theorem fireProjectile_disguise : fireProjectile (s.disguise b g) = (fireProjectile s).map (State.disguise b g) := by
  rw [fireProjectile, fireProjectile, draw_disguise]
  cases draw .fire s with
  | answered r t =>
    have ht : fireTest (t.disguise b g).side r .encounter (t.disguise b g) = _ := fireTest_disguise b g t t.side r _
    dsimp only [Reply.map]
    rw [ht]
    rcases fireTest t.side r .encounter t with _ | ⟨_ | _, u⟩ <;> rfl
  | never t => rfl

theorem shoot_disguise : shoot (s.disguise b g) = (shoot s).map (State.disguise b g) := by
  rw [shoot, shoot, fireProjectile_disguise]
  cases fireProjectile s <;> rfl

theorem goopStep_disguise : goopStep (s.disguise b g) = (goopStep s).map (State.disguise b g) :=
  ite_eq_map .rfl rfl (ite_eq_map .rfl (ite_eq_map .rfl rfl (shoot_disguise b g s.countDown.spendGoop)) rfl)

theorem exitStep_disguise : exitStep (s.disguise b g) = (exitStep s).map (State.disguise b g) := by
  have h : rngAdvance (s.disguise b g) = (rngAdvance s).map (State.disguise b g) := ask_disguise b g s _
  refine ite_eq_map .rfl rfl ?_
  rw [h]
  cases rngAdvance s <;> rfl

end

section

variable {b : Byte} (g : Eng → Eng) (s : State)

/-- The masks of steps 1 and 6 leave bit 7 of GT out (R128). -/
theorem xor_bit7_and_masks (hb : b = 0 ∨ b = 0x80) :
    ∀ x : Byte, (x ^^^ b) &&& turretMask = x &&& turretMask ∧ (x ^^^ b) &&& periodicMask = x &&& periodicMask := by
  rcases hb with rfl | rfl <;> decide

/-- The increment of step 7 carries nothing out of bit 7. -/
theorem xor_bit7_add_one (hb : b = 0 ∨ b = 0x80) : ∀ x : Byte, (x ^^^ b) + 1 = (x + 1) ^^^ b := by
  rcases hb with rfl | rfl <;> decide

theorem turretStep_disguise (hb : b = 0 ∨ b = 0x80) :
    turretStep (s.disguise b g) = (turretStep s).map (State.disguise b g) :=
  ite_eq_map (and_congr_left' (iff_of_eq (congrArg (· = 0) (xor_bit7_and_masks hb s.gt).1)))
    (drawDiscard_disguise b g s _) rfl

theorem periodicStep_disguise (hb : b = 0 ∨ b = 0x80) :
    periodicStep (s.disguise b g) = (periodicStep s).map (State.disguise b g) :=
  ite_eq_map (iff_of_eq (congrArg (· = 0) (xor_bit7_and_masks hb s.gt).2)) (drawDiscard_disguise b g s _) rfl

theorem tick_disguise (hb : b = 0 ∨ b = 0x80) : tick (s.disguise b g) = (tick s).disguise b g := by
  simp only [tick, State.disguise, xor_bit7_add_one hb]

theorem frame_disguise (hb : b = 0 ∨ b = 0x80) : frame (s.disguise b g) = (frame s).map (State.disguise b g) := by
  have steps : frameSteps (s.disguise b g) = (frameSteps s).map (State.disguise b g) :=
    map_andThen (turretStep_disguise g s hb) fun s1 =>
    map_andThen (rangeStep_disguise b g (oscillate s1)) fun s2 =>
    map_andThen (goopStep_disguise b g s2) fun s3 =>
    map_andThen (periodicStep_disguise g s3 hb) fun s4 => by rw [tick_disguise g s4 hb, exitStep_disguise]
  rw [frame, frame, steps]
  cases frameSteps s <;> rfl

theorem runFrames_disguise (hb : b = 0 ∨ b = 0x80) (n : Nat) :
    ∀ s : State, runFrames n (s.disguise b g) = (runFrames n s).map (State.disguise b g) := by
  induction n with
  | zero => exact fun s => rfl
  | succ n ih => exact fun s => map_andThen (frame_disguise g s hb) ih

end
/-! ### Frames and ENG -/

theorem frame_complete (s : State) : frame s.complete = (frame s).map State.complete := by
  rw [complete_eq_disguise, frame_disguise _ _ (.inl rfl), ← funext complete_eq_disguise]

theorem runFrames_complete (n : Nat) (s : State) : runFrames n s.complete = (runFrames n s).map State.complete := by
  rw [complete_eq_disguise, runFrames_disguise _ (.inl rfl), ← funext complete_eq_disguise]

/-! ### STEP and RUN with bit 7 of GT flipped

`flipGt` is `State.disguise 0x80 id`, which the rules of the frame apply to as it stands. -/

theorem exec_step_flipGt (s : State) : exec .step (flipGt s) = mapNext flipGt (exec .step s) := by
  have h : frame (flipGt s) = (frame s).map flipGt := frame_disguise id s (.inr rfl)
  cases ha : s.active
  · rw [exec_refused (.inl rfl) ha, exec_refused (.inl rfl) (s := flipGt s) ha]
    simp [mapNext, refuseInactive, raiseError_eq, State.complete, flipGt]
  · have ha' : (flipGt s).active = true := ha
    simp only [exec, execStep, ha, ha', if_true, h]
    cases frame s <;> rfl

theorem exec_run_flipGt (s : State) : exec .run (flipGt s) = mapNext flipGt (exec .run s) := by
  have h : runFrames runFuel (flipGt s) = (runFrames runFuel s).map flipGt := runFrames_disguise id (.inr rfl) _ s
  cases ha : s.active
  · rw [exec_refused (.inr rfl) ha, exec_refused (.inr rfl) (s := flipGt s) ha]
    simp [mapNext, refuseInactive, raiseError_eq, State.complete, flipGt]
  · have ha' : (flipGt s).active = true := ha
    simp only [exec, execRun, ha, ha', if_true, h]
    cases runFrames runFuel s <;> rfl

end Sys2Proof.Machine

namespace Sys2Proof

open Sys2Proof.Machine

/-- Settles O53: a frame does not read bit 7 of GT and passes it on, so STEP and RUN do, and START writes PHASE to
GT. -/
theorem phaseBitSevenHasNoEffect : Obligations.PhaseBitSevenHasNoEffect := by
  refine ⟨exec_step_flipGt, exec_run_flipGt, fun s side phase seed ha => ?_⟩
  have started (p : Byte) : exec (.start side p seed) s =
      .next (startTrial side p (s.issued (.seed seed) (s.collaborator.seed seed))).complete := by
    rcases exec_start_cases side p seed s with ⟨_, e⟩ | ⟨hn, _⟩
    · exact e
    · exact absurd (ha.symm.trans hn) (by simp)
  rw [started, started]
  rfl

end Sys2Proof

/-! SUPPORT. The projectile loop and the flight written out step by step (42_projectile.md R151 to R161): `proj` ends
exactly where the flight does, and with some velocity the flight leaves the field. -/

namespace Sys2Proof.Machine

/-! ### The loop and the written-out flight -/

theorem launchAngle_eq_flightAngle (p : Params) (side : Side) (r : Byte) :
    launchAngle p side r = flightAngle p side r := by
  cases side <;> rfl

section

variable (p : Params) (x y : Half) (side : Side) (tx ty : Half) (r : Byte) (n : Nat)

theorem flightX_zero : flightX p x side r 0 = spawnX p side x := by
  cases side <;> simp [flightX, spawnX, toFixed, bySide, PerSide.get]

theorem flightY_zero : flightY p y side r 0 = spawnY p y := by simp [flightY, spawnY, toFixed]

theorem flightX_add (k : Nat) : flightX p x side r (n + k) =
    flightX p x side r n + BitVec.ofNat 32 k * velocityX p (flightAngle p side r) := by
  rw [flightX, flightX, BitVec.ofNat_add, BitVec.add_mul, BitVec.add_assoc, velocityX]

theorem flightY_add (k : Nat) : flightY p y side r (n + k) =
    flightY p y side r n + BitVec.ofNat 32 k * velocityY p (flightAngle p side r) := by
  rw [flightY, flightY, BitVec.ofNat_add, BitVec.add_mul, BitVec.add_assoc, velocityY]

theorem inField_flight : inField p (flightX p x side r n) (flightY p y side r n) = inFieldAt p x y side r n := by
  simp only [inField, inFieldAt, Bool.decide_and, intPart]
  rfl

theorem hitTest_flight :
    hitTest p tx ty (flightX p x side r n) (flightY p y side r n) = hitAt p x y side tx ty r n := by
  simp only [hitTest, hitAt, Bool.decide_and, intPart, distance]
  rfl

/-- The loop of R157 from the position after `n` steps. -/
def flightFrom (fuel n : Nat) : Option (Bool × Nat) :=
  flight p tx ty (velocityX p (flightAngle p side r)) (velocityY p (flightAngle p side r)) fuel
    (flightX p x side r n) (flightY p y side r n) n

theorem proj_eq_flightFrom : proj p x y side tx ty r = flightFrom p x y side tx ty r flightBound 0 := by
  rw [flightFrom, flightX_zero, flightY_zero, ← launchAngle_eq_flightAngle]
  rfl

theorem flightFrom_zero : flightFrom p x y side tx ty r 0 n = none := rfl

/-- One step of the loop, with the checks of R155 and R156 on the position after it. -/
theorem flightFrom_succ (fuel : Nat) : flightFrom p x y side tx ty r (fuel + 1) n =
    if inFieldAt p x y side r (n + 1) = false then some (false, n + 1)
    else if hitAt p x y side tx ty r (n + 1) = true then some (true, n + 1)
    else flightFrom p x y side tx ty r fuel (n + 1) := by
  have hX : flightX p x side r n + velocityX p (flightAngle p side r) = flightX p x side r (n + 1) := by
    simp [flightX_add]
  have hY : flightY p y side r n + velocityY p (flightAngle p side r) = flightY p y side r (n + 1) := by
    simp [flightY_add]
  simp only [flightFrom, flight, hX, hY, inField_flight, hitTest_flight, Bool.not_eq_true']

end

section

variable {p : Params} {x y : Half} {side : Side} {tx ty : Half} {r : Byte}

/-- After step `k` the flight goes on: in the field and no hit (R157). -/
def FliesOn (p : Params) (x y : Half) (side : Side) (tx ty : Half) (r : Byte) (k : Nat) : Prop :=
  inFieldAt p x y side r k = true ∧ hitAt p x y side tx ty r k = false

theorem flightFrom_eq_some {fuel : Nat} : ∀ {n m : Nat} {hit : Bool},
    flightFrom p x y side tx ty r fuel n = some (hit, m) →
      n < m ∧ (∀ k, n < k → k < m → FliesOn p x y side tx ty r k) ∧
      (hit = true → inFieldAt p x y side r m = true ∧ hitAt p x y side tx ty r m = true) ∧
      (hit = false → inFieldAt p x y side r m = false) := by
  induction fuel with
  | zero => simp [flightFrom_zero]
  | succ fuel ih =>
    intro n m hit e
    rw [flightFrom_succ] at e
    split at e
    case isTrue hout =>
      cases e
      exact ⟨by omega, fun k h1 h2 => by omega, by simp, fun _ => hout⟩
    case isFalse hin =>
      split at e
      case isTrue hhit =>
        cases e
        exact ⟨by omega, fun k h1 h2 => by omega, fun _ => ⟨by simpa using hin, hhit⟩, by simp⟩
      case isFalse hmiss =>
        obtain ⟨hlt, hon, hend⟩ := ih e
        refine ⟨by omega, fun k h1 h2 => ?_, hend⟩
        obtain rfl | hk : k = n + 1 ∨ n + 1 < k := by omega
        · exact ⟨by simpa using hin, by simpa using hmiss⟩
        · exact hon k hk h2

theorem flightFrom_eq_none {fuel : Nat} : ∀ {n : Nat}, flightFrom p x y side tx ty r fuel n = none →
    ∀ k, n < k → k ≤ n + fuel → FliesOn p x y side tx ty r k := by
  induction fuel with
  | zero => exact fun _ k h1 h2 => by omega
  | succ fuel ih =>
    intro n e k h1 h2
    rw [flightFrom_succ] at e
    split at e
    case isTrue => cases e
    case isFalse hin =>
      split at e
      case isTrue => cases e
      case isFalse hmiss =>
        obtain rfl | hk : k = n + 1 ∨ n + 1 < k := by omega
        · exact ⟨by simpa using hin, by simpa using hmiss⟩
        · exact ih e k hk (by omega)

/-- A test that ends, ends where the written-out flight does (R157). -/
theorem proj_endsAt {hit : Bool} {n : Nat} (e : proj p x y side tx ty r = some (hit, n)) :
    EndsAt p x y side tx ty r hit n := by
  rw [proj_eq_flightFrom] at e
  obtain ⟨hpos, hon, hend⟩ := flightFrom_eq_some e
  exact ⟨hpos, fun k hk => hon k hk, hend⟩

theorem endsAt_not_neverEnds {hit : Bool} {n : Nat} (h : EndsAt p x y side tx ty r hit n) :
    ¬NeverEnds p x y side tx ty r := by
  intro hnever
  obtain ⟨hpos, -, hhit, hmiss⟩ := h
  obtain ⟨hin, hno⟩ := hnever n hpos
  cases hit with
  | true => simp [(hhit rfl).2] at hno
  | false => simp [hmiss rfl] at hin

/-! ### The bound on the loop loses nothing -/

/-- Every product of the trig unit is a multiple of 2^8 (R104), so 2^24 of it are 0. -/
theorem period_mul_trig (p : Params) (k : TrigKind) (amp θ : Byte) (q : Nat) :
    BitVec.ofNat 32 (q * 0x1000000) * trig p k amp θ = 0 := by
  have hlow : (trig p k amp θ).toNat % 256 = 0 := by
    simpa [BitVec.extractLsb_toNat] using congrArg BitVec.toNat (trig_lowByte p k amp θ)
  obtain ⟨v, hv⟩ : 256 ∣ (trig p k amp θ).toNat := Nat.dvd_of_mod_eq_zero hlow
  rw [← BitVec.toNat_inj, BitVec.toNat_mul, BitVec.toNat_ofNat, Nat.mod_mul_mod, hv,
    show q * 0x1000000 * (256 * v) = 2 ^ 32 * (q * v) by ring]
  simp

/-- The positions repeat after 2^24 steps. -/
theorem fliesOn_add_period (k q : Nat) :
    FliesOn p x y side tx ty r (k + q * 0x1000000) ↔ FliesOn p x y side tx ty r k := by
  have hX : flightX p x side r (k + q * 0x1000000) = flightX p x side r k := by
    rw [flightX_add, velocityX, period_mul_trig]
    exact BitVec.add_zero _
  have hY : flightY p y side r (k + q * 0x1000000) = flightY p y side r k := by
    rw [flightY_add, velocityY, period_mul_trig]
    exact BitVec.add_zero _
  simp only [FliesOn, inFieldAt, hitAt, hX, hY]

/-- A test that has not ended within the bound never ends (R160, R161). -/
theorem proj_neverEnds (e : proj p x y side tx ty r = none) : NeverEnds p x y side tx ty r := by
  rw [proj_eq_flightFrom] at e
  intro n hn
  have hsplit : n = (n - 1) % 0x1000000 + 1 + (n - 1) / 0x1000000 * 0x1000000 := by omega
  rw [hsplit]
  have hlt : (n - 1) % 0x1000000 < 0x1000000 := Nat.mod_lt _ (by decide)
  exact (fliesOn_add_period _ _).2 (flightFrom_eq_none e _ (by omega) (by rw [flightBound]; omega))

/-- The model's test never ends exactly where the written-out flight never ends (R161). -/
theorem proj_eq_none_iff : proj p x y side tx ty r = none ↔ NeverEnds p x y side tx ty r := by
  refine ⟨proj_neverEnds, fun h => ?_⟩
  cases e : proj p x y side tx ty r with
  | none => rfl
  | some a => exact absurd h (endsAt_not_neverEnds (proj_endsAt e))

/-! ### With some velocity the flight leaves a field of D48 -/

/-- A word other than 0 has a multiple that flips bit 31: an odd multiple of a power of 2, times the rest of 2^31. -/
theorem exists_mul_eq_bit31 {v : Word} (hv : v ≠ 0) : ∃ m, BitVec.ofNat 32 m * v = 0x80000000 := by
  obtain ⟨k, c, hodd, hc⟩ := Nat.exists_eq_two_pow_mul_odd (n := v.toNat) (by simpa [← BitVec.toNat_inj] using hv)
  obtain ⟨d, rfl⟩ := hodd
  have hk : k < 32 := by
    by_contra hk
    have : 2 ^ 32 ≤ v.toNat := by
      rw [hc]
      exact (Nat.pow_le_pow_right (by decide) (by omega)).trans (Nat.le_mul_of_pos_right _ (by omega))
    omega
  refine ⟨2 ^ (31 - k), ?_⟩
  have hpow : 2 ^ (31 - k) * 2 ^ k = 2 ^ 31 := by rw [← pow_add]; congr 1; omega
  have hprod : 2 ^ (31 - k) * v.toNat = 2 ^ 32 * d + 2 ^ 31 := by
    rw [hc, ← mul_assoc, hpow]
    ring
  rw [← BitVec.toNat_inj, BitVec.toNat_mul, BitVec.toNat_ofNat, Nat.mod_mul_mod, hprod]
  simp

theorem not_both_in_lower_half (w : Word) (h : (w.extractLsb 31 16).toNat < 0x8000) :
    0x8000 ≤ ((w + 0x80000000).extractLsb 31 16).toNat := by
  have hhigh (u : Word) : (u.extractLsb 31 16).toNat = u.toNat / 65536 := intPart_toNat u
  have hadd : (w + 0x80000000).toNat = (w.toNat + 0x80000000) % 0x100000000 := BitVec.toNat_add w 0x80000000
  rw [hhigh] at h ⊢
  omega

/-- Two steps whose positions differ by 2^31 are not both in the field (R155, D48). -/
theorem not_neverEnds_of_moving (hfield : p.fieldOk = true) (hmoving : p.Moving) : ¬NeverEnds p x y side tx ty r := by
  intro hnever
  have hbound : p.fieldBound ≤ 0x8000 := of_decide_eq_true (Bool.and_eq_true_iff.1 hfield).2
  have hin (n : Nat) (hn : 1 ≤ n) : ((flightX p x side r n).extractLsb 31 16).toNat < 0x8000 ∧
      ((flightY p y side r n).extractLsb 31 16).toNat < 0x8000 := by
    obtain ⟨hX, hY⟩ := of_decide_eq_true (hnever n hn).1
    exact ⟨hX.trans_le hbound, hY.trans_le hbound⟩
  rcases not_and_or.1 (hmoving (flightAngle p side r)) with hv | hv
  · obtain ⟨m, hm⟩ := exists_mul_eq_bit31 hv
    have hfar := not_both_in_lower_half _ (hin 1 le_rfl).1
    have hnear := (hin (1 + m) (by omega)).1
    rw [flightX_add, velocityX, hm] at hnear
    omega
  · obtain ⟨m, hm⟩ := exists_mul_eq_bit31 hv
    have hfar := not_both_in_lower_half _ (hin 1 le_rfl).2
    have hnear := (hin (1 + m) (by omega)).2
    rw [flightY_add, velocityY, hm] at hnear
    omega

end

end Sys2Proof.Machine

/-! SUPPORT. The requests of a frame in the order of R127, and what a frame that completes leaves (41_encounter.md R112
to R125, R127, R133, R134): the state in which step 5 runs, the shot, the end of the frame; O42 to O45, O47, O38 and
O39 from it. -/

namespace Sys2Proof.Machine

/-! ### The requests that each step of a frame is due to issue -/

/-- The TURRET draw, where step 1 makes one (R114). -/
def turretDue (s : State) : List RngReq :=
  if s.gt.toNat % 64 = 0 ∧ (s.side = .right ∨ s.inRange = false) then [.draw .turret s.cfg.turretKind] else []

/-- The ARM draw, where step 4 makes one (R118). -/
def armDue (s : State) : List RngReq := if s.inRange = true then [.draw .arm s.cfg.armKind] else []

/-- The FIRE draw, where step 5 makes one (R120, R163). -/
def fireDue (s : State) : List RngReq := if Fires s then [.draw .fire s.cfg.fireKind] else []

/-- The PERIODIC draw, where step 6 makes one (R121). -/
def periodicDue (s : State) : List RngReq := if s.gt.toNat % 128 = 0 then [.draw .periodic s.cfg.periodKind] else []

/-- The draws up to the end of step 5. -/
def drawsToStepFive (s : State) : List RngReq := turretDue s ++ armDue s ++ fireDue s

theorem requestsDue_eq (s : State) : requestsDue s = drawsToStepFive s ++ periodicDue s ++ [.advance] := rfl

theorem periodicGate_iff (s : State) : PeriodicGate s ↔ s.gt.toNat % 128 = 0 := by
  rw [PeriodicGate, ← BitVec.toNat_inj, BitVec.toNat_and]
  exact iff_of_eq (congrArg (· = 0) (Nat.and_two_pow_sub_one_eq_mod s.gt.toNat 7))

/-! ### How a part of a frame ends, by the requests it is due to issue -/

/-- A part of a frame that starts in `s` and is due to issue `due` issues all of it and continues, terminates on the
way, or hangs: at a request that is not answered, or, where `endless` holds, after the FIRE draw (R58, R134). -/
inductive Course (endless : Prop) (s : State) (due : List RngReq) : FrameResult → Prop
  | cont {t : State} (h : Asked due s t) : Course endless s due (.cont t)
  | terminated {l : List RngReq} {t : State} (hl : l <+: due) (h : Asked l s t) : Course endless s due (.terminated t)
  | unanswered {l : List RngReq} {q : RngReq} {u t : State} (hl : l ++ [q] <+: due) (h : Asked l s u)
      (hq : u.collaborator.answers q u.sigma = false) (hlog : t.rngLog = u.rngLog ++ [q]) (hsigma : t.sigma = u.sigma) :
      Course endless s due (.hang t)
  | endless {l : List RngReq} {t : State} (hl : l ++ [.draw .fire (s.cfg.drawKind .fire)] <+: due)
      (h : Asked (l ++ [.draw .fire (s.cfg.drawKind .fire)]) s t) (he : endless) : Course endless s due (.hang t)

section

variable {endless : Prop} {s t : State} {due : List RngReq} {r : FrameResult}

theorem Course.asked (h : Course endless s due (.cont t)) : Asked due s t := by
  cases h with
  | cont h => exact h

/-- The part may start in any state with the collaborator and the log of `s`. -/
theorem Course.congr (h : Course endless s due r) (hcfg : t.cfg = s.cfg) (hlog : t.rngLog = s.rngLog)
    (hsigma : t.sigma = s.sigma) : Course endless t due r := by
  cases h with
  | cont h => exact .cont (h.congr hcfg hlog hsigma rfl rfl rfl)
  | terminated hl h => exact .terminated hl (h.congr hcfg hlog hsigma rfl rfl rfl)
  | unanswered hl h hq hlog' hsigma' =>
    exact .unanswered hl (h.congr hcfg hlog hsigma rfl rfl rfl) hq hlog' hsigma'
  | endless hl h he => exact .endless (hcfg ▸ hl) (hcfg ▸ h.congr hcfg hlog hsigma rfl rfl rfl) he

/-- Two parts, one after the other (R112). -/
theorem Course.andThen {k : State → FrameResult} {due' : List RngReq} (h : Course endless s due r)
    (hk : ∀ u, r = .cont u → Course endless u due' (k u)) : Course endless s (due ++ due') (r.andThen k) := by
  have shorter {l : List RngReq} (hl : l <+: due) : l <+: due ++ due' := hl.trans (List.prefix_append _ _)
  have longer {l : List RngReq} (hl : l <+: due') : due ++ l <+: due ++ due' := (List.prefix_append_right_inj _).2 hl
  cases h with
  | terminated hl h => exact .terminated (shorter hl) h
  | unanswered hl h hq hlog hsigma => exact .unanswered (shorter hl) h hq hlog hsigma
  | endless hl h he => exact .endless (shorter hl) h he
  | @cont u h =>
    have second := hk u rfl
    rw [andThen_cont]
    generalize k u = r' at second
    cases second with
    | cont h' => exact .cont (h.trans h')
    | terminated hl h' => exact .terminated (longer hl) (h.trans h')
    | unanswered hl h' hq hlog hsigma =>
      exact .unanswered (by rw [List.append_assoc]; exact longer hl) (h.trans h') hq hlog hsigma
    | endless hl h' he =>
      rw [h.1] at hl h'
      exact .endless (by rw [List.append_assoc]; exact longer hl) (by rw [List.append_assoc]; exact h.trans h') he

/-- A part without a request. -/
theorem Course.cont_nil (hcfg : t.cfg = s.cfg) (hlog : t.rngLog = s.rngLog) (hsigma : t.sigma = s.sigma) :
    Course endless s [] (.cont t) := .cont (.nil hcfg hlog hsigma)

theorem asked_issued {q : RngReq} (ha : s.collaborator.answers q s.sigma = true) :
    Asked [q] s (s.issued q (rngReply s.collaborator q s.sigma).2) := .ask (ask_eq_answered.2 ⟨ha, rfl, rfl⟩)

theorem Course.hang_first {q : RngReq} {rest : List RngReq} (ha : s.collaborator.answers q s.sigma = false) :
    Course endless s (q :: rest) (.hang (s.issued q s.sigma)) :=
  .unanswered (l := []) (List.prefix_append [q] rest) (.nil rfl rfl rfl) ha rfl rfl

/-! ### The steps -/

theorem turretStep_course (s : State) : Course endless s (turretDue s) (turretStep s) := by
  unfold turretDue
  rcases turretStep_cases s with ⟨hg, e⟩ | ⟨hg, ha, e⟩ | ⟨hg, ha, e⟩ <;> rw [e]
  · rw [if_neg ((turretGate_iff s).not.1 hg)]
    exact .cont_nil rfl rfl rfl
  · rw [if_pos ((turretGate_iff s).1 hg)]
    exact .cont (asked_issued ha)
  · rw [if_pos ((turretGate_iff s).1 hg)]
    exact .hang_first ha

theorem rangeStep_course (s : State) : Course endless s (armDue s) (rangeStep s) := by
  unfold armDue
  rcases rangeStep_cases s with ⟨hr, e⟩ | ⟨hr, ha, e⟩ | ⟨hr, ha, e⟩ <;> rw [e]
  · rw [if_neg (by simp [hr])]
    exact .cont_nil (by simp) (by simp) (by simp)
  · rw [if_pos hr]
    exact .cont ((asked_issued ha).congr rfl rfl rfl (by simp) (by simp) (by simp))
  · rw [if_pos hr]
    exact .hang_first ha

theorem periodicStep_course (s : State) : Course endless s (periodicDue s) (periodicStep s) := by
  unfold periodicDue
  rcases periodicStep_cases s with ⟨hg, e⟩ | ⟨hg, ha, e⟩ | ⟨hg, ha, e⟩ <;> rw [e]
  · rw [if_neg ((periodicGate_iff s).not.1 hg)]
    exact .cont_nil rfl rfl rfl
  · rw [if_pos ((periodicGate_iff s).1 hg)]
    exact .cont (asked_issued ha)
  · rw [if_pos ((periodicGate_iff s).1 hg)]
    exact .hang_first ha

theorem exitStep_course (s : State) : Course endless s [.advance] (exitStep s) := by
  rcases exitStep_cases s with ⟨_, e⟩ | ⟨_, ha, e⟩ | ⟨_, ha, e⟩ <;> rw [e]
  · exact .terminated (List.nil_prefix) (.nil rfl rfl rfl)
  · exact .cont (asked_issued ha)
  · exact .hang_first ha

end

/-! ### The state in which step 5 runs -/

/-- LAST_FIRE and FIRE_STEPS are unchanged. -/
def SameRecord (s t : State) : Prop :=
  t.lfHit = s.lfHit ∧ t.lfR = s.lfR ∧ t.lfAngle = s.lfAngle ∧ t.lfValid = s.lfValid ∧ t.lfSrc = s.lfSrc ∧
    t.fireSteps = s.fireSteps

theorem SameRecord.trans {s t u : State} (h : SameRecord s t) (k : SameRecord t u) : SameRecord s u := by
  simp_all [SameRecord]

/-- What steps 1 to 4 of a frame that starts in `s` leave, in the terms of the statements. -/
structure AtStepFive (s u : State) : Prop where
  keeps : FrameKeeps s u
  flags : SameFlags s u
  record : SameRecord s u
  gt : u.gt = s.gt
  x : u.x = xAtStepFive s
  y : u.y = yAtStepFive s
  timer : u.goopTimer = timerAtStepFive s
  counter : u.goopCounter = s.goopCounter
  fireByte : (drawn u.collaborator u.cfg.fireKind u.sigma).1 = fireByte s

section

variable {s t : State}

theorem turretStep_record (e : turretStep s = .cont t) : SameRecord s t ∧ t.gt = s.gt := by
  rcases turretStep_cases s with ⟨_, e'⟩ | ⟨_, _, e'⟩ | ⟨_, _, e'⟩ <;> rw [e'] at e <;> cases e <;> simp [SameRecord]

theorem rangeStep_record (e : rangeStep s = .cont t) : SameRecord s t ∧ t.gt = s.gt := by
  rcases rangeStep_cases s with ⟨_, e'⟩ | ⟨_, _, e'⟩ | ⟨_, _, e'⟩ <;> rw [e'] at e <;> cases e <;> simp [SameRecord]

theorem approachStep_x (s : State) : (approachStep s).x =
    if distance s.x s.tx < s.cfg.aggroX.toNat then s.x else s.x + dirAddend (s.cfg.dir.get s.side) := by
  unfold approachStep
  split <;> rfl

/-- Steps 3 and 4 move, unless they set IN_RANGE (R116 to R118). -/
theorem rangeStep_x (e : rangeStep s = .cont t) : t.x = xAtStepFive s := by
  unfold xAtStepFive
  rcases rangeStep_cases s with ⟨hr, e'⟩ | ⟨hr, _, e'⟩ | ⟨_, _, e'⟩ <;> rw [e'] at e <;> cases e
  · simp only [approachStep_x, hr, true_and, distance, dirAddend_eq_dirStep]
  · simp [hr, dirAddend_eq_dirStep]

theorem rangeStep_sigma (e : rangeStep s = .cont t) :
    t.sigma = if s.inRange = true then (drawn s.collaborator s.cfg.armKind s.sigma).2 else s.sigma := by
  rcases rangeStep_cases s with ⟨hr, e'⟩ | ⟨hr, _, e'⟩ | ⟨_, _, e'⟩ <;> rw [e'] at e <;> cases e
  · simp [hr]
  · simp [hr, rngReply_draw, Params.drawKind]

theorem frame_head {s1 : State} (e1 : turretStep s = .cont s1) (e2 : rangeStep (oscillate s1) = .cont t) :
    AtStepFive s t := by
  obtain ⟨k1, f1⟩ := turretStep_keeps e1
  obtain ⟨k2, f2⟩ := rangeStep_keeps e2
  obtain ⟨r1, g1⟩ := turretStep_record e1
  obtain ⟨r2, g2⟩ := rangeStep_record e2
  obtain ⟨-, hcounter, htimer⟩ := frame_head_goop e1 e2
  obtain ⟨hx, -, hangle, hrange⟩ := turretStep_position e1
  have hkeeps : FrameKeeps s t := k1.trans ((oscillate_keeps _).1.trans k2)
  have ⟨hcfg, hside, htx, _⟩ := k1
  refine
    { keeps := hkeeps
      flags := f1.trans ((oscillate_keeps _).2.trans f2)
      record := r1.trans r2
      gt := g2.trans g1
      x := ?_
      y := ?_
      timer := htimer
      counter := hcounter
      fireByte := ?_ }
  · rw [rangeStep_x e2]
    simp only [xAtStepFive, oscillate_x, oscillate_tx, oscillate_inRange, oscillate_cfg, oscillate_side, hx, hrange,
      htx, hcfg, hside]
  · rw [(rangeStep_moves e2).1, oscillate_y, hcfg, hangle, yAtStepFive]
  · have hsigma := rangeStep_sigma e2
    simp only [State.collaborator, oscillate_inRange, oscillate_cfg, oscillate_sigma, hrange, hcfg,
      turretStep_sigma e1] at hsigma
    rw [State.collaborator, hkeeps.1, hsigma]
    rfl

end

/-! ### Step 5 -/

/-- The shot of the frame that starts in `s` ended and stands in the record of `t` (R157, R163). -/
def RecordsShot (hit : Bool) (s t : State) : Prop :=
  ∃ n, proj s.cfg (xAtStepFive s) (yAtStepFive s) s.side s.tx s.ty (fireByte s) = some (hit, n) ∧
    t.lfHit = hit ∧ t.lfR = fireByte s ∧ t.lfAngle = flightAngle s.cfg s.side (fireByte s) ∧ t.lfValid = true ∧
    t.lfSrc = .encounter ∧ t.fireSteps = BitVec.ofNat 32 n

theorem RecordsShot.trans {hit : Bool} {s t u : State} (h : RecordsShot hit s t) (k : SameRecord t u) :
    RecordsShot hit s u := by
  obtain ⟨n, hp, h1, h2, h3, h4, h5, h6⟩ := h
  obtain ⟨k1, k2, k3, k4, k5, k6⟩ := k
  exact ⟨n, hp, k1.trans h1, k2.trans h2, k3.trans h3, k4.trans h4, k5.trans h5, k6.trans h6⟩

/-- How step 5 of a frame that starts in `s` ends, run in `u`; `t` is the state it reaches (R120). -/
inductive StepFive (s u : State) : FrameResult → Prop
  | waits {t : State} (h : timerAtStepFive s ≠ 1) (hr : SameRecord s t) (hl : Asked [] u t) : StepFive s u (.cont t)
  | missGoop {t : State} (h : timerAtStepFive s = 1) (hc : s.goopCounter = 1) (hr : t.reason = .missGoop)
      (hc' : t.goopCounter = 0) (hrec : SameRecord s t) (hl : Asked [] u t) : StepFive s u (.terminated t)
  | hit {t : State} (h : Fires s) (hr : t.reason = .hit) (hrec : RecordsShot true s t)
      (hl : Asked [.draw .fire s.cfg.fireKind] u t) : StepFive s u (.terminated t)
  | miss {t : State} (h : Fires s) (hrec : RecordsShot false s t) (hl : Asked [.draw .fire s.cfg.fireKind] u t) :
      StepFive s u (.cont t)
  | unanswered {t : State} (h : Fires s) (ha : u.collaborator.answers (.draw .fire s.cfg.fireKind) u.sigma = false)
      (ht : t.rngLog = u.rngLog ++ [.draw .fire s.cfg.fireKind]) (hs : t.sigma = u.sigma) : StepFive s u (.hang t)
  | endless {t : State} (h : ShotNeverEnds s) (hl : Asked [.draw .fire s.cfg.fireKind] u t) : StepFive s u (.hang t)

section

variable {s t : State}

theorem shoot_gt (e : shoot s = .cont t ∨ shoot s = .terminated t) : t.gt = s.gt := by
  have fired {u : State} (hu : fireProjectile s = .hit u ∨ fireProjectile s = .miss u) : u.gt = s.gt := by
    rcases fireProjectile_cases s with ⟨_, e'⟩ | ⟨_, _, e'⟩ | ⟨_, n, _, e'⟩ | ⟨_, n, _, e'⟩ <;> rw [e'] at hu <;>
      simp at hu <;> subst hu <;> rfl
  rcases shoot_cases s with ⟨u, _, e'⟩ | ⟨u, hu, e'⟩ | ⟨u, hu, e'⟩ <;> rw [e'] at e <;> simp at e <;> subst e
  · exact fired (u := u) (.inl hu)
  · exact fired (.inr hu)

theorem goopStep_gt (e : goopStep s = .cont t ∨ goopStep s = .terminated t) : t.gt = s.gt := by
  rcases goopStep_cases s with ⟨_, e'⟩ | ⟨_, _, e'⟩ | ⟨_, _, e'⟩ | ⟨_, _, e'⟩ <;> rw [e'] at e
  · simp at e; subst e
    rfl
  · simp at e; subst e
    rfl
  · simp at e; subst e
    rfl
  · exact shoot_gt (s := s.countDown.spendGoop) e

end

/-- The shot of step 5, its two bookkeeping updates done. -/
theorem shoot_stepFive {s u : State} (h : AtStepFive s u) (hf : Fires s) :
    StepFive s u (shoot u.countDown.spendGoop) := by
  have ⟨hcfg, hside, htx, hty, _⟩ := h.keeps
  have hkind : u.cfg.drawKind .fire = s.cfg.fireKind := by rw [hcfg]; rfl
  have hbyte : (rngReply u.collaborator (.draw .fire s.cfg.fireKind) u.sigma).1 = fireByte s := by
    rw [rngReply_draw, ← h.fireByte, hcfg]
  have cases := fireProjectile_cases u.countDown.spendGoop
  simp only [countDown_cfg, spendGoop_cfg, countDown_sigma, spendGoop_sigma, countDown_x, spendGoop_x, countDown_y,
    spendGoop_y, countDown_side, spendGoop_side, countDown_tx, spendGoop_tx, countDown_ty, spendGoop_ty,
    show u.countDown.spendGoop.collaborator = u.collaborator from rfl, hkind, hbyte] at cases
  rw [h.x, h.y, hside, htx, hty, hcfg, launchAngle_eq_flightAngle] at cases
  have asked (ha : u.collaborator.answers (.draw .fire s.cfg.fireKind) u.sigma = true) {t : State}
      (hcfg : t.cfg = u.cfg) (hlog : t.rngLog = u.rngLog ++ [.draw .fire s.cfg.fireKind])
      (hsigma : t.sigma = (rngReply u.collaborator (.draw .fire s.cfg.fireKind) u.sigma).2) :
      Asked [.draw .fire s.cfg.fireKind] u t := (asked_issued ha).congr rfl rfl rfl hcfg hlog hsigma
  unfold shoot
  rcases cases with ⟨ha, e⟩ | ⟨ha, hp, e⟩ | ⟨ha, n, hp, e⟩ | ⟨ha, n, hp, e⟩ <;> rw [e]
  · exact .unanswered hf ha rfl rfl
  · exact .endless ⟨hf, proj_eq_none_iff.1 hp⟩ (asked ha rfl rfl rfl)
  · exact .hit hf rfl ⟨n, hp, rfl, rfl, rfl, rfl, rfl, rfl⟩ (asked ha rfl rfl rfl)
  · exact .miss hf ⟨n, hp, rfl, rfl, rfl, rfl, rfl, rfl⟩ (asked ha rfl rfl rfl)

theorem goopStep_stepFive {s u : State} (h : AtStepFive s u) : StepFive s u (goopStep u) := by
  rcases goopStep_cases u with ⟨h0, e⟩ | ⟨_, h1, e⟩ | ⟨h1, hc, e⟩ | ⟨h1, hc, e⟩ <;> rw [e]
  · rw [h.timer] at h0
    exact .waits (by simp [h0]) h.record (.nil rfl rfl rfl)
  · rw [h.timer] at h1
    exact .waits (by bv_omega) h.record (.nil rfl rfl rfl)
  · have hspent : (u.countDown.spendGoop.terminate .missGoop).goopCounter = 0 := hc
    rw [h.timer] at h1
    rw [h.counter] at hc
    exact .missGoop (by bv_omega) (by bv_omega) rfl hspent h.record (.nil rfl rfl rfl)
  · rw [h.timer] at h1
    rw [h.counter] at hc
    exact shoot_stepFive h ⟨by bv_omega, by bv_omega⟩

theorem stepFive_course {s u : State} {r : FrameResult} (h : AtStepFive s u) (k : StepFive s u r) :
    Course (ShotNeverEnds s) u (fireDue s) r := by
  have hkind : RngReq.draw .fire (u.cfg.drawKind .fire) = .draw .fire s.cfg.fireKind := by rw [h.keeps.1]; rfl
  unfold fireDue
  cases k with
  | waits h hr hl =>
    rw [if_neg fun hf => h hf.1]
    exact .cont hl
  | missGoop h hc hr hc' hrec hl => exact .terminated List.nil_prefix hl
  | hit hf hr hrec hl =>
    rw [if_pos hf]
    exact .terminated List.prefix_rfl hl
  | miss hf hrec hl =>
    rw [if_pos hf]
    exact .cont hl
  | unanswered hf ha ht hs =>
    rw [if_pos hf]
    exact .unanswered (l := []) List.prefix_rfl (.nil rfl rfl rfl) ha ht hs
  | endless hf hl =>
    rw [if_pos hf.1]
    exact .endless (l := []) (hkind ▸ List.prefix_rfl) (hkind ▸ hl) hf

/-! ### The frame -/

/-- A frame issues the requests of R127 that are due, up to where it ends. -/
theorem frameSteps_course (s : State) : Course (ShotNeverEnds s) s (requestsDue s) (frameSteps s) := by
  have due : requestsDue s = turretDue s ++ (armDue s ++ (fireDue s ++ (periodicDue s ++ [.advance]))) := by
    simp [requestsDue_eq, drawsToStepFive]
  rw [due]
  refine (turretStep_course s).andThen fun s1 e1 => ?_
  have harm : armDue s = armDue (oscillate s1) := by
    simp [armDue, (turretStep_position e1).2.2.2, (turretStep_keeps e1).1.1]
  rw [harm]
  refine ((rangeStep_course (oscillate s1)).congr (t := s1) rfl rfl rfl).andThen fun s2 e2 => ?_
  have hfive := frame_head e1 e2
  have five := goopStep_stepFive hfive
  refine (stepFive_course hfive five).andThen fun s3 e3 => ?_
  have hperiodic : periodicDue s = periodicDue s3 := by
    simp [periodicDue, goopStep_gt (.inl e3), hfive.gt, (goopStep_keeps (.inl e3)).1, hfive.keeps.1]
  rw [hperiodic]
  exact (periodicStep_course s3).andThen fun s4 _ => (exitStep_course (tick s4)).congr rfl rfl rfl

/-- What step 5 of a frame that goes on after it has done to the record: a shot that missed, or nothing. -/
def ShotOrSame (s t : State) : Prop := Fires s ∧ RecordsShot false s t ∨ ¬Fires s ∧ SameRecord s t

theorem ShotOrSame.trans {s t u : State} (h : ShotOrSame s t) (k : SameRecord t u) : ShotOrSame s u :=
  h.imp (And.imp_right (·.trans k)) (And.imp_right (·.trans k))

/-- How a frame that completes ends, with the requests it has issued, GT and the record (R113, R127, R133). -/
inductive FrameEnd (s t : State) : Prop
  | missGoop (h : timerAtStepFive s = 1) (hc : s.goopCounter = 1) (ha : t.active = false) (hr : t.reason = .missGoop)
      (hg : t.gt = s.gt) (hc' : t.goopCounter = 0) (hrec : SameRecord s t) (hl : Asked (drawsToStepFive s) s t)
  | hit (h : Fires s) (ha : t.active = false) (hr : t.reason = .hit) (hg : t.gt = s.gt) (hrec : RecordsShot true s t)
      (hl : Asked (drawsToStepFive s) s t)
  | missExit (ha : t.active = false) (hr : t.reason = .missExit) (hg : t.gt = s.gt + 1)
      (hx : crossed s.cfg s.side t.x = true) (hrec : ShotOrSame s t)
      (hl : Asked (drawsToStepFive s ++ periodicDue s) s t)
  | goesOn (hf : SameFlags s t) (hg : t.gt = s.gt + 1) (hx : crossed s.cfg s.side t.x = false) (hrec : ShotOrSame s t)
      (hl : Asked (requestsDue s) s t)

section

variable {s t : State}

theorem periodicStep_record (e : periodicStep s = .cont t) : SameRecord s t ∧ t.gt = s.gt := by
  rcases periodicStep_cases s with ⟨_, e'⟩ | ⟨_, _, e'⟩ | ⟨_, _, e'⟩ <;> rw [e'] at e <;> cases e <;> simp [SameRecord]

theorem exitStep_record (e : exitStep s = .cont t ∨ exitStep s = .terminated t) : SameRecord s t ∧ t.gt = s.gt := by
  rcases exitStep_cases s with ⟨_, e'⟩ | ⟨_, _, e'⟩ | ⟨_, _, e'⟩ <;> rw [e'] at e <;> simp at e <;> subst e <;>
    simp [SameRecord]

/-- A frame that goes on after step 5 has fired and missed, or waits. -/
theorem StepFive.shotOrSame {u : State} (h : StepFive s u (.cont t)) : ShotOrSame s t := by
  cases h with
  | waits h hr hl => exact .inr ⟨fun hf => h hf.1, hr⟩
  | miss h hrec hl => exact .inl ⟨h, hrec⟩

theorem fireDue_of_fires (h : Fires s) : fireDue s = [.draw .fire s.cfg.fireKind] := if_pos h

theorem fireDue_of_not_fires (h : ¬Fires s) : fireDue s = [] := if_neg h

/-- A frame that ends at step 5. -/
theorem StepFive.frameEnd {u : State} (k : StepFive s u (.terminated t)) (e : goopStep u = .terminated t)
    (hgt : u.gt = s.gt) (hl : Asked (turretDue s ++ armDue s) s u) : FrameEnd s t := by
  have ha : t.active = false := (goopStep_terminated_flags e).1
  have hg : t.gt = s.gt := (goopStep_gt (.inr e)).trans hgt
  cases k with
  | missGoop h hc hr hc' hrec hm =>
    refine .missGoop h hc ha hr hg hc' hrec ?_
    rw [drawsToStepFive, fireDue_of_not_fires fun hf => hf.2 hc]
    exact hl.trans hm
  | hit hf hr hrec hm =>
    refine .hit hf ha hr hg hrec ?_
    rw [drawsToStepFive, fireDue_of_fires hf]
    exact hl.trans hm

/-- A frame that passes step 5 ends at step 8 or goes on. -/
theorem frameEnd_of_tail {s3 s4 : State} (hrec : ShotOrSame s s3) (hkeeps : FrameKeeps s s3) (hflags : SameFlags s s3)
    (hgt : s3.gt = s.gt) (hl : Asked (drawsToStepFive s) s s3) (e4 : periodicStep s3 = .cont s4)
    (e5 : exitStep (tick s4) = .cont t ∨ exitStep (tick s4) = .terminated t) : FrameEnd s t := by
  obtain ⟨r4, g4⟩ := periodicStep_record e4
  obtain ⟨r5, g5⟩ := exitStep_record e5
  have hrecord : ShotOrSame s t := (hrec.trans r4).trans ((show SameRecord s4 (tick s4) by simp [SameRecord]).trans r5)
  have hticked : t.gt = s.gt + 1 := by rw [g5, tick_gt, g4, hgt]
  have ⟨hcfg, hside, _⟩ := hkeeps.trans ((periodicStep_keeps e4).1.trans (tick_keeps s4).1)
  have hperiodic : periodicDue s3 = periodicDue s := by simp [periodicDue, hgt, hkeeps.1]
  have hl4 : Asked (drawsToStepFive s ++ periodicDue s) s (tick s4) := by
    have hp : Asked (periodicDue s3) s3 s4 := (e4 ▸ periodicStep_course (endless := False) s3).asked
    exact (hl.trans (hperiodic ▸ hp)).congr rfl rfl rfl rfl rfl rfl
  rcases exitStep_cases (tick s4) with ⟨hx, e'⟩ | ⟨hx, ha, e'⟩ | ⟨_, _, e'⟩ <;> rw [e'] at e5 <;> simp at e5 <;>
    subst e5
  · rw [hcfg, hside] at hx
    exact .missExit rfl rfl hticked hx hrecord (hl4.congr rfl rfl rfl rfl rfl rfl)
  · rw [hcfg, hside] at hx
    exact .goesOn (hflags.trans ((periodicStep_keeps e4).2.trans (tick_keeps s4).2)) hticked hx hrecord
      (hl4.trans (asked_issued ha))

theorem frame_end (e : frame s = .cont t ∨ frame s = .terminated t) : FrameEnd s t := by
  obtain ⟨s1, s2, e1, e2, e3⟩ := frame_completed e
  have hfive := frame_head e1 e2
  have five := goopStep_stepFive hfive
  have hl : Asked (turretDue s ++ armDue s) s s2 := by
    have h1 : Asked (turretDue s) s s1 := (e1 ▸ turretStep_course (endless := False) s).asked
    have h2 : Asked (armDue (oscillate s1)) (oscillate s1) s2 := (e2 ▸ rangeStep_course (endless := False) _).asked
    have harm : armDue (oscillate s1) = armDue s := by
      simp [armDue, (turretStep_position e1).2.2.2, (turretStep_keeps e1).1.1]
    exact h1.trans (harm ▸ h2.congr rfl rfl rfl rfl rfl rfl)
  rcases e3 with e3 | ⟨s3, s4, e3, e4, e5⟩
  · rw [e3] at five
    exact five.frameEnd e3 hfive.gt hl
  · rw [e3] at five
    exact frameEnd_of_tail five.shotOrSame (hfive.keeps.trans (goopStep_keeps (.inl e3)))
      (hfive.flags.trans (goopStep_cont_flags e3)) ((goopStep_gt (.inl e3)).trans hfive.gt)
      (hl.trans (stepFive_course hfive five).asked) e4 e5

/-- POS after a completed frame: steps 5 to 8 leave it. -/
theorem frame_pos (e : frame s = .cont t ∨ frame s = .terminated t) : t.x = xAtStepFive s ∧ t.y = yAtStepFive s := by
  obtain ⟨s1, s2, e1, e2, e3⟩ := frame_completed e
  have after : SamePosition s2 t := by
    rcases e3 with e3 | ⟨s3, s4, e3, e4, e5⟩
    · exact goopStep_position (.inr e3)
    · exact (goopStep_position (.inl e3)).trans <| (periodicStep_position e4).trans <| (tick_position s4).trans
        (exitStep_position e5)
  have hfive := frame_head e1 e2
  exact ⟨after.1.trans hfive.x, after.2.1.trans hfive.y⟩

end

end Sys2Proof.Machine

namespace Sys2Proof.Machine

/-! ### What is in the lists of due requests -/

section

variable {s : State} {q : RngReq}

@[simp] theorem mem_turretDue : q ∈ turretDue s ↔
    (s.gt.toNat % 64 = 0 ∧ (s.side = .right ∨ s.inRange = false)) ∧ q = .draw .turret s.cfg.turretKind := by
  rw [turretDue, List.mem_ite_nil_right, List.mem_singleton]

@[simp] theorem mem_armDue : q ∈ armDue s ↔ s.inRange = true ∧ q = .draw .arm s.cfg.armKind := by
  rw [armDue, List.mem_ite_nil_right, List.mem_singleton]

@[simp] theorem mem_fireDue : q ∈ fireDue s ↔ Fires s ∧ q = .draw .fire s.cfg.fireKind := by
  rw [fireDue, List.mem_ite_nil_right, List.mem_singleton]

@[simp] theorem mem_periodicDue :
    q ∈ periodicDue s ↔ s.gt.toNat % 128 = 0 ∧ q = .draw .periodic s.cfg.periodKind := by
  rw [periodicDue, List.mem_ite_nil_right, List.mem_singleton]

theorem ite_sublist_singleton {p : Prop} [Decidable p] : (if p then [q] else []).Sublist [q] := by
  split <;> simp

theorem drawsToStepFive_prefix (s : State) : drawsToStepFive s <+: requestsDue s :=
  (List.prefix_append _ (periodicDue s)).trans (List.prefix_append _ _)

theorem requestsDue_sublist (s : State) :
    (requestsDue s).Sublist [.draw .turret (s.cfg.drawKind .turret), .draw .arm (s.cfg.drawKind .arm),
      .draw .fire (s.cfg.drawKind .fire), .draw .periodic (s.cfg.drawKind .periodic), .advance] :=
  (((ite_sublist_singleton.append ite_sublist_singleton).append ite_sublist_singleton).append
    ite_sublist_singleton).append (List.Sublist.refl [RngReq.advance])

end

/-! ### A frame that never completes -/

/-- Where a frame that hangs has stopped: at the last request of `l`, not answered in the state in which it is issued,
or in the endless test after the FIRE draw; `u` has the collaborator's state after the answered ones (R58, R134). -/
def StopsIn (s u : State) (l : List RngReq) : Prop :=
  (∃ l' q, l = l' ++ [q] ∧ allAnswered s.collaborator l' s.sigma = true ∧
    s.collaborator.answers q (sigmaAfterAll s.collaborator l' s.sigma) = false ∧
    u.sigma = sigmaAfterAll s.collaborator l' s.sigma) ∨
  (ShotNeverEnds s ∧ (∃ l', l = l' ++ [.draw .fire (s.cfg.drawKind .fire)]) ∧
    allAnswered s.collaborator l s.sigma = true ∧ u.sigma = sigmaAfterAll s.collaborator l s.sigma)

section

variable {s t u : State}

theorem frame_hang_requests (e : frame s = .hang u) :
    ∃ l, u.rngLog = s.rngLog ++ l ∧ l <+: requestsDue s ∧ StopsIn s u l := by
  obtain ⟨v, e', rfl⟩ := frame_eq_hang.1 e
  have course := frameSteps_course s
  rw [e'] at course
  cases course with
  | @unanswered l q w _ hl h hq hlog hsigma =>
    obtain ⟨hcfg, hlog', hall, hsigma'⟩ := h
    rw [hlog', List.append_assoc] at hlog
    rw [State.collaborator, hcfg, hsigma'] at hq
    exact ⟨l ++ [q], hlog, hl, .inl ⟨l, q, rfl, hall, hq, hsigma.trans hsigma'⟩⟩
  | endless hl h he =>
    obtain ⟨-, hlog, hall, hsigma⟩ := h
    exact ⟨_, hlog, hl, .inr ⟨he, ⟨_, rfl⟩, hall, hsigma⟩⟩

theorem StopsIn.reason {l : List RngReq} (h : StopsIn s u l) :
    allAnswered s.collaborator l s.sigma = false ∨ ShotNeverEnds s := by
  rcases h with ⟨l', q, rfl, hall, hq, -⟩ | ⟨he, -⟩
  · exact .inl (by simp [allAnswered_append, allAnswered, hall, hq])
  · exact .inr he

/-- A conforming collaborator and some velocity leave no reason to hang (R134). -/
theorem frame_not_hang (hc : Conforming s) (hfield : s.cfg.fieldOk = true) (hm : s.cfg.Moving) : frame s ≠ .hang u := by
  intro e
  obtain ⟨l, -, -, ⟨l', q, -, -, hq, -⟩ | ⟨⟨-, hnever⟩, -⟩⟩ := frame_hang_requests e
  · exact absurd ((hc q _).symm.trans hq) (by simp)
  · exact not_neverEnds_of_moving hfield hm hnever

/-- A frame that completes had no endless shot. -/
theorem frame_completed_not_endless (e : frame s = .cont t ∨ frame s = .terminated t) : ¬ShotNeverEnds s := by
  rintro ⟨hf, hnever⟩
  have ended {hit : Bool} (h : RecordsShot hit s t) : False := by
    obtain ⟨n, hp, -⟩ := h
    exact endsAt_not_neverEnds (proj_endsAt hp) hnever
  have notSame (h : ShotOrSame s t) : False := h.elim (fun h => ended h.2) fun h => h.1 hf
  cases frame_end e with
  | missGoop h hc => exact hf.2 hc
  | hit h ha hr hg hrec hl => exact ended hrec
  | missExit ha hr hg hx hrec hl => exact notSame hrec
  | goesOn hflags hg hx hrec hl => exact notSame hrec

/-- A completed frame has issued a first part of the due requests, each answered. -/
theorem frame_completed_requests (e : frame s = .cont t ∨ frame s = .terminated t) :
    ∃ l, l <+: requestsDue s ∧ Asked l s t := by
  cases frame_end e with
  | missGoop _ _ _ _ _ _ _ hl => exact ⟨_, drawsToStepFive_prefix s, hl⟩
  | hit _ _ _ _ _ hl => exact ⟨_, drawsToStepFive_prefix s, hl⟩
  | missExit _ _ _ _ _ hl => exact ⟨_, List.prefix_append _ _, hl⟩
  | goesOn _ _ _ _ hl => exact ⟨_, List.prefix_rfl, hl⟩

theorem exec_step_of_cont (ha : s.active = true) (e : frame s = .cont t) : exec .step s = .next t.complete := by
  simp [exec, execStep, ha, e]

theorem exec_step_of_terminated (ha : s.active = true) (e : frame s = .terminated t) :
    exec .step s = .next t.complete := by
  simp [exec, execStep, ha, e]

theorem exec_step_of_hang (ha : s.active = true) (e : frame s = .hang t) : exec .step s = .next (t.hang .step) := by
  simp [exec, execStep, ha, e]

/-- A STEP of a trial completes with its frame, or hangs with it. -/
theorem exec_step_active (ha : s.active = true) (e : exec .step s = .next t) :
    (∃ u, (frame s = .cont u ∨ frame s = .terminated u) ∧ t = u.complete) ∨
      ∃ u, frame s = .hang u ∧ t = u.hang .step := by
  by_cases hidle : t.eng = .idle
  · exact .inl (exec_step_completed ha e hidle)
  · cases hf : frame s with
    | cont u => rw [exec_step_of_cont ha hf] at e; cases e; exact absurd rfl hidle
    | terminated u => rw [exec_step_of_terminated ha hf] at e; cases e; exact absurd rfl hidle
    | hang u => rw [exec_step_of_hang ha hf] at e; cases e; exact .inr ⟨u, rfl, rfl⟩

/-! ### The record of a completed frame -/

theorem SameRecord.lastFireWord (h : SameRecord s t) : lastFireWord t = lastFireWord s := by
  obtain ⟨hhit, hr, hangle, hvalid, hsrc, -⟩ := h
  simp only [Machine.lastFireWord, hhit, hr, hangle, hvalid, hsrc]

theorem SameRecord.fireSteps (h : SameRecord s t) : t.fireSteps = s.fireSteps := h.2.2.2.2.2

/-- A recorded shot is the flight up to its first end (R157, R163). -/
theorem RecordsShot.endsAt {hit : Bool} (h : RecordsShot hit s t) :
    EndsAt s.cfg (xAtStepFive s) (yAtStepFive s) s.side s.tx s.ty (fireByte s) t.lfHit t.fireSteps.toNat ∧
      t.lfHit = hit ∧ t.lfR = fireByte s ∧ t.lfAngle = flightAngle s.cfg s.side (fireByte s) ∧ t.lfValid = true ∧
      t.lfSrc = .encounter := by
  obtain ⟨n, hp, hhit, hbyte, hangle, hvalid, hsrc, hsteps⟩ := h
  have hbound : n ≤ 0x80000001 := (proj_steps hp).2
  have hn : t.fireSteps.toNat = n := by rw [hsteps, BitVec.toNat_ofNat, Nat.mod_eq_of_lt (by omega)]
  rw [hn, hhit]
  exact ⟨proj_endsAt hp, rfl, hbyte, hangle, hvalid, hsrc⟩

/-- A frame that passes step 5 with a shot has missed. -/
theorem ShotOrSame.fires (h : ShotOrSame s t) (hx : t.x = xAtStepFive s) (hy : t.y = yAtStepFive s)
    (hr : t.reason ≠ .hit) (hf : Fires s) :
    EndsAt s.cfg t.x t.y s.side s.tx s.ty (fireByte s) t.lfHit t.fireSteps.toNat ∧
      (t.reason = .hit ↔ t.lfHit = true) ∧ t.lfR = fireByte s ∧
      t.lfAngle = flightAngle s.cfg s.side (fireByte s) ∧ t.lfValid = true ∧ t.lfSrc = .encounter := by
  rcases h with ⟨-, hrec⟩ | ⟨hn, -⟩
  · obtain ⟨hend, hmiss, rest⟩ := hrec.endsAt
    rw [hx, hy]
    exact ⟨hend, iff_of_false hr (by simp [hmiss]), rest⟩
  · exact absurd hf hn

theorem ShotOrSame.same (h : ShotOrSame s t) (hr : t.reason ≠ .hit) (hn : ¬Fires s) :
    t.reason ≠ .hit ∧ Machine.lastFireWord t = Machine.lastFireWord s ∧ t.fireSteps = s.fireSteps := by
  rcases h with ⟨hf, -⟩ | ⟨-, hrec⟩
  · exact absurd hf hn
  · exact ⟨hr, hrec.lastFireWord, hrec.fireSteps⟩

/-! ### A hung command -/

/-- The host, the RNG port and the engine leave a hung command and every register but ERRCODE as they are; only the
collaborator's state, the word read and the counter of free values change (R229). -/
def HungKeeps (s t : State) : Prop :=
  t = { s with events := t.events, err := t.err, rdata := t.rdata, sigma := t.sigma, freeCount := t.freeCount }

theorem raiseError_hungKeeps (er : Err) (s : State) : HungKeeps s (raiseError er s) := by
  rw [raiseError_eq]
  rfl

theorem hostRead_hungKeeps (off : Nat) (s : State) : HungKeeps s (hostRead off s) := by
  rcases hostRead_cases off s with ⟨_, _, e⟩ | ⟨_, e⟩ <;> rw [e] <;> rfl

/-- A busy block answers every write with BUSY_OVERRUN or ignores it (R172, R174 to R176). -/
theorem hostWrite_hungKeeps (off : Nat) (v : Word) (hb : s.busy = true) : HungKeeps s (hostWrite off v s) := by
  rcases hostWrite_cases off v s with ⟨_, e⟩ | ⟨_, e⟩ | ⟨_, e⟩ | ⟨_, _, _, e⟩ <;> rw [e]
  · rw [offer, if_pos hb]
    exact raiseError_hungKeeps _ _
  · rw [writePos, if_pos hb]
    exact raiseError_hungKeeps _ _
  · rw [writeTarget, if_pos hb]
    exact raiseError_hungKeeps _ _
  · rfl

theorem HungKeeps.of_withEvents {rest : List Event} (h : HungKeeps (s.withEvents rest) t) : HungKeeps s t := h

theorem step_of_hung {c : Instr} (h : s.eng = .hung c) (e : step s = .next t) :
    (∃ rest, s.events = .reset :: rest) ∨ HungKeeps s t := by
  rcases step_cases s with ⟨u, hu, e'⟩ | ⟨rest, _, _, e'⟩ | ⟨a, rest, _, e'⟩ | ⟨rest, hev, e'⟩ | ⟨rest, _, e'⟩ <;>
    rw [e'] at e
  · right
    have hsame : u.eng = s.eng ∧ HungKeeps s u := by rcases hu with rfl | ⟨es, rfl⟩ <;> exact ⟨rfl, rfl⟩
    rcases runEngine_cases u with ⟨_, e'⟩ | ⟨c', hc, _⟩
    · rw [e'] at e; cases e
      exact hsame.2
    · simp [hsame.1, h] at hc
  · cases e
    exact .inr (hostRead_hungKeeps _ _).of_withEvents
  · right
    have hb : (s.withEvents rest).busy = true := (busy_eq_true_iff _).2 (by simp [h])
    rcases access_cases a (s.withEvents rest) with ⟨⟨why, e'⟩, _⟩ | ⟨_, _, e'⟩ | ⟨v, _, _, e'⟩ <;> rw [e'] at e <;>
      cases e
    · exact (hostRead_hungKeeps _ _).of_withEvents
    · exact (hostWrite_hungKeeps _ _ hb).of_withEvents
  · exact .inl ⟨rest, hev⟩
  · cases e
    exact .inr rfl

/-! ### A frame without draws -/

/-- A frame without a draw and without a countdown approaches, ticks and advances (R114 to R125). -/
theorem frame_of_quiet (hr : s.inRange = false) (htimer : s.goopTimer = 0) (hturret : s.gt &&& turretMask ≠ 0)
    (hperiodic : s.gt &&& periodicMask ≠ 0) (ha : s.collaborator.answers .advance s.sigma = true)
    (hx : crossed s.cfg s.side (approachStep (oscillate s)).x = false) :
    frame s = .cont ((tick (approachStep (oscillate s))).issued .advance (s.collaborator.advance s.sigma)) := by
  have hexit : exitStep (tick (approachStep (oscillate s))) =
      .cont ((tick (approachStep (oscillate s))).issued .advance (s.collaborator.advance s.sigma)) := by
    rcases exitStep_cases (tick (approachStep (oscillate s))) with ⟨h, _⟩ | ⟨_, _, e⟩ | ⟨_, h, _⟩
    · simp [hx] at h
    · simpa [State.collaborator] using e
    · rw [State.collaborator] at ha
      simp [State.collaborator, ha] at h
  refine frame_eq_cont.2 ⟨s, approachStep (oscillate s), approachStep (oscillate s), approachStep (oscillate s),
    if_neg fun h => hturret h.1, ?_, ?_, ?_, hexit⟩
  · simp [rangeStep, hr]
  · simp [goopStep, htimer]
  · exact if_neg (by simpa using hperiodic)

theorem crossed_eq_exitCrossed (p : Params) (side : Side) (x : Half) : crossed p side x = exitCrossed p side x := by
  unfold crossed exitCrossed
  cases side with
  | left => cases h : p.dir.left <;> simp [PerSide.get, bySide, h] <;> rfl
  | right => cases h : p.dir.right <;> simp [PerSide.get, bySide, h] <;> rfl

end

end Sys2Proof.Machine

namespace Sys2Proof

open Sys2Proof.Machine

/-- Settles O38: nothing makes the frame hang, so it goes on with its flags or has terminated. -/
theorem stepCompletesWithAnActiveTrial : Obligations.StepCompletesWithAnActiveTrial := by
  intro s ha hc hfield hm
  cases e : frame s with
  | cont t =>
    obtain ⟨hactive, hterm, hreason⟩ := frame_cont_flags e
    exact ⟨_, exec_step_of_cont ha e, rfl, .inl ⟨hactive.trans ha, hterm, hreason⟩⟩
  | terminated t => exact ⟨_, exec_step_of_terminated ha e, rfl, .inr (frame_terminated_flags (t := t) e)⟩
  | hang t => exact absurd e (frame_not_hang hc hfield hm)

/-- Settles O39: the frame is `frame_of_quiet`, and the approach enters range or moves. -/
theorem quietFrameMovesOrEntersRange : Obligations.QuietFrameMovesOrEntersRange := by
  intro s ha hr htimer hturret hperiodic hadvance near
  refine ⟨fun hnear hx => ?_, fun hfar hx => ?_⟩
  · have happroach : approachStep (oscillate s) = { oscillate s with inRange := true } := if_pos hnear
    rw [← crossed_eq_exitCrossed] at hx
    rw [exec_step_of_cont ha (frame_of_quiet hr htimer hturret hperiodic hadvance (happroach ▸ hx)), happroach]
    rfl
  · have happroach : approachStep (oscillate s) = (oscillate s).move := if_neg hfar
    rw [← dirAddend_eq_dirStep] at hx ⊢
    rw [← crossed_eq_exitCrossed] at hx
    rw [exec_step_of_cont ha (frame_of_quiet hr htimer hturret hperiodic hadvance (happroach ▸ hx)), happroach]
    rfl

/-- Settles O42: the requests are an initial part of those due, and the end of the frame says which. -/
theorem frameRequestsComeInTheFixedOrder : Obligations.FrameRequestsComeInTheFixedOrder := by
  intro s t ha hnone e
  have fits {l : List RngReq} (hl : l <+: requestsDue s) :
      l.Sublist [.draw .turret (s.cfg.drawKind .turret), .draw .arm (s.cfg.drawKind .arm),
        .draw .fire (s.cfg.drawKind .fire), .draw .periodic (s.cfg.drawKind .periodic), .advance] ∧ l.length ≤ 5 :=
    have h := hl.sublist.trans (requestsDue_sublist s)
    ⟨h, h.length_le⟩
  have hfirst := drawsToStepFive_prefix s
  rcases exec_step_active ha e with ⟨u, hu, rfl⟩ | ⟨u, hu, rfl⟩
  · cases frame_end hu with
    | missGoop h hc ha' hr hg hc' hrec hl =>
      exact ⟨_, hl.2.1, (fits hfirst).1, (fits hfirst).2, by simp [drawsToStepFive, ha'], by simp [drawsToStepFive]⟩
    | hit h ha' hr hg hrec hl =>
      exact ⟨_, hl.2.1, (fits hfirst).1, (fits hfirst).2, by simp [drawsToStepFive, ha'], by simp [drawsToStepFive]⟩
    | missExit ha' hr hg hx hrec hl =>
      have hlong : drawsToStepFive s ++ periodicDue s <+: requestsDue s := List.prefix_append _ _
      exact ⟨_, hl.2.1, (fits hlong).1, (fits hlong).2, by simp [drawsToStepFive, ha'], by simp [hr]⟩
    | goesOn hf hg hx hrec hl =>
      obtain ⟨hactive, -, hreason⟩ := hf
      exact ⟨_, hl.2.1, (fits List.prefix_rfl).1, (fits List.prefix_rfl).2, by simp [requestsDue_eq, hactive, ha],
        by simp [hreason, hnone]⟩
  · obtain ⟨l, hlog, hl, -⟩ := frame_hang_requests hu
    have hreason : u.reason = .none := ((frame_hang_keeps hu).2.1.2.2).trans hnone
    exact ⟨l, hlog, (fits hl).1, (fits hl).2, by simp, by simp [hreason]⟩

/-- Settles O43: each site is due by its own gate, and the end of the frame says whether PERIODIC was reached. -/
theorem frameDrawsExactlyWhenTheGatesOpen : Obligations.FrameDrawsExactlyWhenTheGatesOpen := by
  intro s t ha hnone e hidle
  obtain ⟨u, hu, rfl⟩ := exec_step_completed ha e hidle
  cases frame_end hu with
  | missGoop h hc ha' hr hg hc' hrec hl =>
    obtain ⟨-, hlog, hall, hsigma⟩ := hl
    refine ⟨_, hlog, ?_, ?_, ?_, hall, hsigma⟩ <;> simp [drawsToStepFive, Params.drawKind, hr]
  | hit h ha' hr hg hrec hl =>
    obtain ⟨-, hlog, hall, hsigma⟩ := hl
    refine ⟨_, hlog, ?_, ?_, ?_, hall, hsigma⟩ <;> simp [drawsToStepFive, Params.drawKind, hr]
  | missExit ha' hr hg hx hrec hl =>
    obtain ⟨-, hlog, hall, hsigma⟩ := hl
    refine ⟨_, hlog, ?_, ?_, ?_, hall, hsigma⟩ <;> simp [drawsToStepFive, Params.drawKind, hr]
  | goesOn hf hg hx hrec hl =>
    obtain ⟨-, hlog, hall, hsigma⟩ := hl
    have hr : u.reason = .none := hf.2.2.trans hnone
    refine ⟨_, hlog, ?_, ?_, ?_, hall, hsigma⟩ <;> simp [requestsDue_eq, drawsToStepFive, Params.drawKind, hr]

/-- Settles O44: the four ends of a frame, with the shot and its record where step 5 fires. -/
theorem terminationLeavesGtAndDrawsAsStated : Obligations.TerminationLeavesGtAndDrawsAsStated := by
  intro s t ha hnone e hidle
  obtain ⟨u, hu, rfl⟩ := exec_step_completed ha e hidle
  obtain ⟨hx, hy⟩ := frame_pos hu
  cases frame_end hu with
  | missGoop h hc ha' hr hg hc' hrec hl =>
    refine ⟨_, hl.2.1, fun _ => ⟨hg, hc', ?_, ?_⟩, ?_, ?_, ?_, fun hf => absurd hc hf.2, fun _ => ⟨?_, ?_, ?_⟩⟩
    · simp [drawsToStepFive, Params.drawKind, hc]
    · simp [drawsToStepFive]
    · simp [hr]
    · simp [hr]
    · simp [hr]
    · simp [hr]
    · exact hrec.lastFireWord
    · exact hrec.fireSteps
  | hit hf ha' hr hg hrec hl =>
    obtain ⟨hend, hhit, hbyte, hangle, hvalid, hsrc⟩ := hrec.endsAt
    refine ⟨_, hl.2.1, ?_, fun _ => ⟨hg, ?_, ?_, hhit, hsrc⟩, ?_, ?_,
      fun _ => ⟨?_, iff_of_true hr hhit, hbyte, hangle, hvalid, hsrc⟩, fun hn => absurd hf hn⟩
    · simp [hr]
    · simpa [drawsToStepFive, Params.drawKind] using hf
    · simp [drawsToStepFive]
    · simp [hr]
    · simp [hr]
    · rw [complete_x, complete_y, hx, hy]
      exact hend
  | missExit ha' hr hg hcross hrec hl =>
    rw [crossed_eq_exitCrossed] at hcross
    have hnohit : u.reason ≠ .hit := by simp [hr]
    refine ⟨_, hl.2.1, ?_, ?_, fun _ => ⟨hg, hcross⟩, ?_, hrec.fires hx hy hnohit, hrec.same hnohit⟩
    · simp [hr]
    · simp [hr]
    · simp [hr]
  | goesOn hflags hg hcross hrec hl =>
    rw [crossed_eq_exitCrossed] at hcross
    have hr : u.reason = .none := hflags.2.2.trans hnone
    have hnohit : u.reason ≠ .hit := by simp [hr]
    refine ⟨_, hl.2.1, ?_, ?_, ?_, fun _ => ⟨hg, hcross⟩, hrec.fires hx hy hnohit, hrec.same hnohit⟩
    · simp [hr]
    · simp [hr]
    · simp [hr]

/-- Settles O45: the timer that step 5 meets is 7 or the old one, and it counts down to 0 at most. -/
theorem armRestartsTheCountdown : Obligations.ArmRestartsTheCountdown := by
  intro s t ha hr e hidle
  obtain ⟨u, hu, rfl⟩ := exec_step_completed ha e hidle
  have hcount : u.goopTimer = if timerAtStepFive s = 0 then 0 else timerAtStepFive s - 1 := by
    cases frame_goop hu with
    | countsDown h ht _ _ _ => exact ht
    | spendsLast h ht _ _ _ _ => rw [ht, h]; rfl
    | fires h ht _ _ _ _ => rw [ht, h]; rfl
  rw [complete_goopTimer, hcount]
  by_cases harm : (armByte s).toNat % 16 = 0
  · have htimer : timerAtStepFive s = 7 := if_pos ⟨hr, harm⟩
    rw [htimer, if_pos harm]
    rfl
  · have htimer : timerAtStepFive s = s.goopTimer := if_neg fun h => harm h.2
    rw [htimer, if_neg harm]

/-- Settles O47: a completed frame has all its requests answered and no endless shot, a hung one stops at one of the
two; and a hung command lets nothing but Reset() by. -/
theorem stepHangsOnlyForTheStatedReasons : Obligations.StepHangsOnlyForTheStatedReasons := by
  refine ⟨fun s t ha e => ?_, fun s t c h e => step_of_hung h e⟩
  rcases exec_step_active ha e with ⟨u, hu, rfl⟩ | ⟨u, hu, rfl⟩
  · obtain ⟨l, hl, -, hlog, hall, -⟩ := frame_completed_requests hu
    have hends := frame_completed_not_endless hu
    exact ⟨l, hlog, hl, by simp [hall, hends], fun h => absurd rfl h⟩
  · obtain ⟨l, hlog, hl, hstop⟩ := frame_hang_requests hu
    obtain ⟨-, -, hkeep⟩ := frame_hang_keeps hu
    refine ⟨l, hlog, hl, iff_of_true (by simp) hstop.reason, fun _ => ⟨?_, hstop⟩⟩
    conv_lhs => rw [hkeep]
    rfl

end Sys2Proof

/-! SUPPORT. RUN as a sequence of STEPs (41_encounter.md R126, R132, R134, C5): the frames of a RUN that go on, the one
that ends it, and the distance to the exit that bounds them; O48 to O51 from it. -/

namespace Sys2Proof.Machine

/-! ### STEPs in a row -/

section

variable {s t u : State}

/-- A STEP runs alike whatever ENG holds. -/
theorem exec_step_complete (s : State) : exec .step s.complete = exec .step s := by
  simp only [exec, execStep, complete_active, frame_complete]
  cases s.active
  · simp [refuseInactive, raiseError_eq, State.complete]
  · cases frame s <;> rfl

theorem stepsFrom_succ_of_idle (e : exec .step s = .next t) (h : t.eng = .idle) (n : Nat) :
    stepsFrom (n + 1) s = stepsFrom n t := by
  simp [stepsFrom, e, (busy_eq_false_iff t).2 h]

theorem stepsFrom_one (e : exec .step s = .next t) : stepsFrom 1 s = t := by
  simp [stepsFrom, e]

/-- The frames of a RUN that go on are as many STEPs that go on. -/
theorem stepsFrom_goesOn (n : Nat) : ∀ {s u : State}, s.active = true → runFrames n s = .cont u →
    (stepsFrom n s).complete = u.complete ∧ (1 ≤ n → (stepsFrom n s).eng = .idle) ∧
      ∀ m, stepsFrom (n + m) s = stepsFrom m (stepsFrom n s) := by
  induction n with
  | zero =>
    intro s u _ h
    cases h
    exact ⟨rfl, by simp, fun m => by rw [Nat.zero_add]; rfl⟩
  | succ n ih =>
    intro s u ha h
    obtain ⟨v, hv, hu⟩ := andThen_eq_cont.1 h
    have first (m : Nat) : stepsFrom (m + 1) s = stepsFrom m v.complete :=
      stepsFrom_succ_of_idle (exec_step_of_cont ha hv) rfl m
    have hu' : runFrames n v.complete = .cont u.complete := by rw [runFrames_complete, hu]; rfl
    obtain ⟨hsame, hidle, hadd⟩ := ih (s := v.complete) (by simp [(frame_cont_flags hv).1, ha]) hu'
    refine ⟨by rw [first, hsame]; rfl, fun _ => ?_, fun m => ?_⟩
    · rw [first]
      cases n with
      | zero => rfl
      | succ n => exact hidle (by omega)
    · rw [Nat.add_right_comm, first, hadd, first]

theorem runFrames_cont_flags {n : Nat} (h : runFrames n s = .cont u) : SameFlags s u := by
  induction n generalizing s with
  | zero => cases h; exact ⟨rfl, rfl, rfl⟩
  | succ n ih =>
    obtain ⟨v, hv, hu⟩ := andThen_eq_cont.1 h
    exact (frame_cont_flags hv).trans (ih hu)

theorem stepsFrom_active {n : Nat} (ha : s.active = true) (h : runFrames n s = .cont u) :
    (stepsFrom n s).active = true := by
  have hsame := congrArg State.active (stepsFrom_goesOn n ha h).1
  exact hsame.trans ((runFrames_cont_flags h).1.trans ha)

/-- Fewer frames than go on, go on. -/
theorem runFrames_cont_of_le {n k : Nat} (hk : k ≤ n) (h : runFrames n s = .cont u) : ∃ v, runFrames k s = .cont v := by
  induction k generalizing n s with
  | zero => exact ⟨s, rfl⟩
  | succ k ih =>
    obtain ⟨m, rfl⟩ : ∃ m, n = m + 1 := ⟨n - 1, by omega⟩
    obtain ⟨v, hv, hu⟩ := andThen_eq_cont.1 h
    obtain ⟨w, hw⟩ := ih (by omega) hu
    exact ⟨w, by rw [runFrames_succ, hv, andThen_cont, hw]⟩

/-- A run of frames that does not go on ends in the frame after those that do. -/
theorem runFrames_ends (fuel : Nat) : ∀ s : State, (∀ t, runFrames fuel s ≠ .cont t) →
    ∃ n v, runFrames n s = .cont v ∧ frame v = runFrames fuel s := by
  induction fuel with
  | zero => exact fun s h => absurd (runFrames_zero s) (h s)
  | succ fuel ih =>
    intro s h
    rw [runFrames_succ] at h ⊢
    cases e : frame s with
    | cont u =>
      obtain ⟨n, v, hv, hend⟩ := ih u (by simpa [e] using h)
      exact ⟨n + 1, v, by rw [runFrames_succ, e, andThen_cont, hv], hend⟩
    | terminated u => exact ⟨0, s, rfl, e⟩
    | hang u => exact ⟨0, s, rfl, e⟩

/-- The STEP after those that go on is the STEP of the state they lead to. -/
theorem exec_step_after {n : Nat} (ha : s.active = true) (h : runFrames n s = .cont u) :
    exec .step (stepsFrom n s) = exec .step u := by
  rw [← exec_step_complete, (stepsFrom_goesOn n ha h).1, exec_step_complete]

/-- A RUN that terminates is the STEPs up to the one that does (R126). -/
theorem runFrames_terminated_steps {fuel : Nat} (ha : s.active = true) (h : runFrames fuel s = .terminated t) :
    ∃ n v, runFrames n s = .cont v ∧ stepsFrom (n + 1) s = t.complete ∧
      ∀ k, k < n + 1 → (stepsFrom k s).active = true := by
  obtain ⟨n, v, hv, hend⟩ := runFrames_ends fuel s (by simp [h])
  have hva : v.active = true := (runFrames_cont_flags hv).1.trans ha
  have hlast : exec .step (stepsFrom n s) = .next t.complete := by
    rw [exec_step_after ha hv, exec_step_of_terminated hva (hend.trans h)]
  refine ⟨n, v, hv, by rw [(stepsFrom_goesOn n ha hv).2.2, stepsFrom_one hlast], fun k hk => ?_⟩
  obtain ⟨w, hw⟩ := runFrames_cont_of_le (by omega : k ≤ n) hv
  exact stepsFrom_active ha hw

theorem exec_run_of_terminated (ha : s.active = true) (h : runFrames runFuel s = .terminated t) :
    exec .run s = .next t.complete := by
  simp only [exec, execRun, ha, if_true, h]

end

/-! ### The distance to the exit -/

/-- The moves in direction DIR that take X to the first position beyond the exit, modulo 2^16 (R116, R123). -/
def movesToExit (p : Params) (side : Side) (x : Half) : Nat :=
  match p.dir.get side with
  | .plus => (p.exitX.get side + 1 - x).toNat
  | .minus => (x - (p.exitX.get side - 1)).toNat

/-- The frames that can still go on: the moves to the exit, and one frame that may enter range (R132). -/
def framesLeft (s : State) : Nat := movesToExit s.cfg s.side s.x + if s.inRange = true then 0 else 1

section

variable {p : Params} {side : Side}

theorem sideOk_iff : p.sideOk side = true ↔ 0 ≤ p.exitDistance side ∧
    -32768 ≤ (p.exitX.get side).toInt + (p.dir.get side).toInt ∧
    (p.exitX.get side).toInt + (p.dir.get side).toInt ≤ 32767 := by
  simp [Params.sideOk, and_assoc]

theorem movesToExit_lt (p : Params) (side : Side) (x : Half) : movesToExit p side x < 65536 := by
  unfold movesToExit
  split <;> exact BitVec.isLt _

/-- Under D48 the first position beyond the exit is crossed. -/
theorem crossed_of_movesToExit_eq_zero (hok : p.sideOk side = true) {x : Half} (h : movesToExit p side x = 0) :
    crossed p side x = true := by
  obtain ⟨-, hlow, hhigh⟩ := sideOk_iff.1 hok
  unfold movesToExit at h
  unfold crossed
  cases hd : p.dir.get side <;> simp only [hd, Dir.toInt] at h hlow hhigh ⊢ <;> rw [decide_eq_true_eq]
  · have hx : x = p.exitX.get side + 1 := by bv_omega
    rw [hx, BitVec.toInt_add, Int.bmod_eq_of_le] <;> simp <;> omega
  · have hx : x = p.exitX.get side - 1 := by bv_omega
    rw [hx, BitVec.toInt_sub, Int.bmod_eq_of_le] <;> simp <;> omega

/-- A move goes one position on. -/
theorem movesToExit_move {x : Half} (h : movesToExit p side x ≠ 0) :
    movesToExit p side (x + dirAddend (p.dir.get side)) + 1 = movesToExit p side x := by
  unfold movesToExit at h ⊢
  cases hd : p.dir.get side <;> simp only [hd, dirAddend] at h ⊢
  · bv_omega
  · have : neg16 1#16 = 0xFFFF#16 := rfl
    rw [this]
    bv_omega

/-- From the spawn point the exit is D + 1 moves away (R132). -/
theorem movesToExit_spawn (hok : p.sideOk side = true) :
    (movesToExit p side (p.spawnX.get side) : Int) = p.exitDistance side + 1 := by
  obtain ⟨hdist, hlow, hhigh⟩ := sideOk_iff.1 hok
  unfold movesToExit
  unfold Params.exitDistance at hdist ⊢
  cases hd : p.dir.get side <;> simp only [hd, Dir.toInt] at hdist hlow hhigh ⊢
  · rw [BitVec.toInt_eq_toNat_cond, BitVec.toInt_eq_toNat_cond] at *
    bv_omega
  · rw [BitVec.toInt_eq_toNat_cond, BitVec.toInt_eq_toNat_cond] at *
    bv_omega

end

/-! ### The frames that go on are fewer than the frames left -/

section

variable {s t : State}

theorem frame_cont_not_crossed (ha : s.active = true) (e : frame s = .cont t) : crossed s.cfg s.side t.x = false := by
  have hactive : t.active = true := (frame_cont_flags e).1.trans ha
  cases frame_end (.inl e) with
  | missGoop _ _ ha' => simp [ha'] at hactive
  | hit _ ha' => simp [ha'] at hactive
  | missExit ha' => simp [ha'] at hactive
  | goesOn _ _ hx => exact hx

/-- A frame that goes on has not reached the exit, and has moved or entered range. -/
theorem frame_cont_framesLeft (ha : s.active = true) (hok : s.cfg.sideOk s.side = true) (e : frame s = .cont t) :
    movesToExit t.cfg t.side t.x ≠ 0 ∧ (movesToExit s.cfg s.side s.x ≠ 0 → framesLeft t < framesLeft s) := by
  obtain ⟨hcfg, hside, -⟩ := frame_keeps (.inl e)
  unfold framesLeft
  rw [hcfg, hside]
  refine ⟨fun h0 => ?_, fun hs => ?_⟩
  · have hx := frame_cont_not_crossed ha e
    rw [crossed_of_movesToExit_eq_zero hok h0] at hx
    cases hx
  · rcases (frame_moves (.inl e)).2 with ⟨hr, hx, -⟩ | ⟨hr, -, hset, hx, -⟩
    · have hmove := movesToExit_move hs
      rw [hr, hx]
      omega
    · simp [hr, hset, hx]

theorem runFrames_cont_framesLeft (n : Nat) : ∀ {s t : State}, s.active = true → s.cfg.sideOk s.side = true →
    movesToExit s.cfg s.side s.x ≠ 0 → runFrames n s = .cont t →
      movesToExit t.cfg t.side t.x ≠ 0 ∧ framesLeft t + n ≤ framesLeft s := by
  induction n with
  | zero =>
    intro s t _ _ hs h
    cases h
    exact ⟨hs, le_rfl⟩
  | succ n ih =>
    intro s t ha hok hs h
    obtain ⟨u, hu, ht⟩ := andThen_eq_cont.1 h
    obtain ⟨hcfg, hside, -⟩ := frame_keeps (.inl hu)
    obtain ⟨hexit, hless⟩ := frame_cont_framesLeft ha hok hu
    obtain ⟨hexit', hleft⟩ := ih ((frame_cont_flags hu).1.trans ha) (by rw [hcfg, hside, hok]) hexit ht
    have := hless hs
    exact ⟨hexit', by omega⟩

theorem framesLeft_pos (h : movesToExit s.cfg s.side s.x ≠ 0) : 0 < framesLeft s := by
  unfold framesLeft
  omega

theorem framesLeft_le (s : State) : framesLeft s ≤ 65536 := by
  have hlt := movesToExit_lt s.cfg s.side s.x
  unfold framesLeft
  split <;> omega

theorem sideOk_of_ok {p : Params} (h : p.ok = true) (side : Side) : p.sideOk side = true := by
  simp only [Params.ok, Bool.and_eq_true] at h
  cases side
  · exact h.1.2
  · exact h.2

theorem fieldOk_of_ok {p : Params} (h : p.ok = true) : p.fieldOk = true := by
  simp only [Params.ok, Bool.and_eq_true] at h
  exact h.1.1

/-- Under the constraints no frame of a RUN hangs. -/
theorem runFrames_not_hang {n : Nat} (ha : s.active = true) (hc : Conforming s) (hfield : s.cfg.fieldOk = true)
    (hm : s.cfg.Moving) : runFrames n s ≠ .hang t := by
  intro h
  obtain ⟨k, v, hv, hend⟩ := runFrames_ends n s (by simp [h])
  have hcfg : v.cfg = s.cfg := (runFrames_keeps ha (.inl hv)).1
  have hcv : Conforming v := by simpa [Conforming, State.collaborator, hcfg] using hc
  exact frame_not_hang hcv (hcfg ▸ hfield) (hcfg ▸ hm) (hend.trans h)

/-- The frames of one engine move are enough: after the first, fewer than 2^16 can go on. -/
theorem runFrames_terminates (ha : s.active = true) (hok : s.cfg.ok = true) (hc : Conforming s) (hm : s.cfg.Moving) :
    ∃ t, runFrames runFuel s = .terminated t := by
  cases h : runFrames runFuel s with
  | terminated t => exact ⟨t, rfl⟩
  | hang t => exact absurd h (runFrames_not_hang ha hc (fieldOk_of_ok hok) hm)
  | cont t =>
    obtain ⟨u, hu, ht⟩ := andThen_eq_cont.1 (h : runFrames (65536 + 1) s = .cont t)
    obtain ⟨hcfg, hside, -⟩ := frame_keeps (.inl hu)
    have hside' : s.cfg.sideOk s.side = true := sideOk_of_ok hok s.side
    obtain ⟨hexit, -⟩ := frame_cont_framesLeft ha hside' hu
    obtain ⟨hexit', hleft⟩ := runFrames_cont_framesLeft 65536 ((frame_cont_flags hu).1.trans ha)
      (by rw [hcfg, hside, hside']) hexit ht
    have hpos := framesLeft_pos hexit'
    have hle := framesLeft_le u
    omega

end

end Sys2Proof.Machine

namespace Sys2Proof

open Sys2Proof.Machine

/-- Settles O48: the frames of the RUN that go on, and the one that terminates, are STEPs. -/
theorem completedRunIsTheSequenceOfSteps : Obligations.CompletedRunIsTheSequenceOfSteps := by
  intro s t ha e hidle
  rcases exec_run_cases s with ⟨hf, _⟩ | ⟨_, u, hu, e'⟩ | ⟨_, u, hu, e'⟩ | ⟨_, u, hu, e'⟩
  · simp [ha] at hf
  · rw [e'] at e; cases e
    cases hidle
  · rw [e'] at e; cases e
    obtain ⟨n, v, -, hsteps, hactive⟩ := runFrames_terminated_steps ha hu
    obtain ⟨hoff, hterm, -⟩ := runFrames_terminated_flags hu
    exact ⟨n + 1, by omega, hsteps, hterm, hoff, hactive⟩
  · rw [e'] at e; cases e
    cases hidle

/-- Settles O49: the frames that went on are STEPs that went on, and a frame that hangs is a STEP that hangs. -/
theorem uncompletedRunInventsNoOutcome : Obligations.UncompletedRunInventsNoOutcome := by
  intro s t ha e hbusy
  have goneOn {n : Nat} {v : State} (hv : runFrames n s = .cont v) :
      (stepsFrom n s).active = true ∧ ∀ k, 1 ≤ k → k ≤ n → (stepsFrom k s).eng = .idle := by
    refine ⟨stepsFrom_active ha hv, fun k h1 hk => ?_⟩
    obtain ⟨w, hw⟩ := runFrames_cont_of_le hk hv
    exact (stepsFrom_goesOn k ha hw).2.1 h1
  rcases exec_run_cases s with ⟨hf, _⟩ | ⟨_, u, hu, e'⟩ | ⟨_, u, hu, e'⟩ | ⟨_, u, hu, e'⟩
  · simp [ha] at hf
  · rw [e'] at e; cases e
    obtain ⟨hactive, hterm, hreason⟩ := runFrames_cont_flags hu
    obtain ⟨hon, hidle⟩ := goneOn hu
    have hsame := congrArg (State.hold .run) (stepsFrom_goesOn _ ha hu).1
    exact ⟨.inl rfl, hactive.trans ha, hterm, hreason, runFuel, hon, hidle, fun _ => hsame, nofun⟩
  · rw [e'] at e; cases e
    exact absurd rfl hbusy
  · rw [e'] at e; cases e
    obtain ⟨n, v, hv, hend⟩ := runFrames_ends runFuel s (by simp [hu])
    have hvflags := runFrames_cont_flags hv
    have hhang := hend.trans hu
    obtain ⟨hactive, hterm, hreason⟩ := hvflags.trans (frame_hang_keeps hhang).2.1
    obtain ⟨hon, hidle⟩ := goneOn hv
    have hstep : exec .step (stepsFrom n s) = .next (u.hang .step) := by
      rw [exec_step_after ha hv, exec_step_of_hang (hvflags.1.trans ha) hhang]
    exact ⟨.inr rfl, hactive.trans ha, hterm, hreason, n, hon, hidle, nofun, fun _ => hstep⟩

/-- Settles O50: the frames of one engine move terminate. -/
theorem runCompletesUnderTheConstraints : Obligations.RunCompletesUnderTheConstraints := by
  intro s ha hok hc hm
  obtain ⟨t, ht⟩ := runFrames_terminates ha hok hc hm
  exact ⟨_, exec_run_of_terminated ha ht, rfl, runFrames_terminated_flags (t := t) ht⟩

/-- Settles O51: after START the frames left are D + 2, and each frame that goes on takes one. -/
theorem trialTerminatesWithinTheExitDistance : Obligations.TrialTerminatesWithinTheExitDistance := by
  intro s t side phase seed hok hc hm e
  rcases exec_start_cases side phase seed s with ⟨_, e'⟩ | ⟨hn, _⟩
  case inr => exact absurd ((hc _ _).symm.trans hn) (by simp)
  rw [e'] at e; cases e
  generalize ht : (startTrial side phase (s.issued (.seed seed) (s.collaborator.seed seed))).complete = t
  have hactive : t.active = true := by rw [← ht]; rfl
  have hcfg : t.cfg = s.cfg := by rw [← ht]; rfl
  have hside : t.side = side := by rw [← ht]; rfl
  have hspawn : t.x = s.cfg.spawnX.get side := by rw [← ht]; rfl
  have hrange : t.inRange = false := by rw [← ht]; rfl
  have hct : Conforming t := by simpa [Conforming, State.collaborator, hcfg] using hc
  have hexit := movesToExit_spawn (sideOk_of_ok hok side)
  have hdist : 0 ≤ s.cfg.exitDistance side := (sideOk_iff.1 (sideOk_of_ok hok side)).1
  have hleft : (framesLeft t : Int) = s.cfg.exitDistance side + 2 := by
    rw [framesLeft, hcfg, hside, hspawn, hrange]
    push_cast
    rw [hexit]
    simp [add_assoc]
  obtain ⟨u, hu⟩ := runFrames_terminates hactive (hcfg ▸ hok) hct (hcfg ▸ hm)
  obtain ⟨n, v, hv, hsteps, hon⟩ := runFrames_terminated_steps hactive hu
  obtain ⟨hpos, hbound⟩ := runFrames_cont_framesLeft n hactive (by rw [hcfg, hside]; exact sideOk_of_ok hok side)
    (by rw [hcfg, hside, hspawn]; omega) hv
  have hpos' := framesLeft_pos hpos
  refine ⟨n + 1, by push_cast; omega, ?_, hon, ?_⟩
  · rw [hsteps]
    exact (runFrames_terminated_flags hu).2.1
  · rw [exec_run_of_terminated hactive hu, hsteps]

end Sys2Proof

/-! SUPPORT. The FIRE draws of a trial: at most one a frame, each paid for with a goop (10_state.md R37; 41_encounter.md
R120, R131); O52 from it. -/

namespace Sys2Proof.Machine

/-- The FIRE draw. -/
def fireRequest (p : Params) : RngReq := .draw .fire (p.drawKind .fire)

section

variable {s t : State}

theorem count_requestsDue (s : State) : (requestsDue s).count (fireRequest s.cfg) = if Fires s then 1 else 0 := by
  have hkind : fireRequest s.cfg = .draw .fire s.cfg.fireKind := rfl
  have hturret : (turretDue s).count (fireRequest s.cfg) = 0 := List.count_eq_zero.2 (by simp [hkind])
  have harm : (armDue s).count (fireRequest s.cfg) = 0 := List.count_eq_zero.2 (by simp [hkind])
  have hperiodic : (periodicDue s).count (fireRequest s.cfg) = 0 := List.count_eq_zero.2 (by simp [hkind])
  have hadvance : [RngReq.advance].count (fireRequest s.cfg) = 0 := List.count_eq_zero.2 (by simp [hkind])
  rw [requestsDue_eq, drawsToStepFive, List.count_append, List.count_append, List.count_append, List.count_append,
    hturret, harm, hperiodic, hadvance, fireDue, hkind]
  split <;> simp

/-- A frame that goes on has paid for its FIRE draw with a goop, and has a goop left (R37, R120). -/
theorem frame_cont_counter (hlive : s.goopCounter ≠ 0) (e : frame s = .cont t) : t.goopCounter ≠ 0 ∧
    t.goopCounter.toNat + (if Fires s then 1 else 0) = s.goopCounter.toNat := by
  cases frame_goop (.inl e) with
  | countsDown h ht hc hl hr =>
    rw [hc, if_neg fun hf => h hf.1]
    exact ⟨hlive, rfl⟩
  | spendsLast h ht hc hc' hl hr =>
    obtain ⟨s1, s2, s3, s4, e1, e2, e3, -, -⟩ := frame_eq_cont.1 e
    have hfive := frame_head e1 e2
    have hleft := goopStep_cont_not_last e3 (hfive.timer.trans h)
    rw [hfive.counter] at hleft
    exact absurd hc hleft
  | fires h ht hc hc' hl hr =>
    have hone : s.goopCounter ≠ 1 := fun h1 => hc (by simp [h1])
    rw [hc', if_pos ⟨h, hone⟩]
    exact ⟨hc, by bv_omega⟩

/-- The requests of a STEP of a trial are an initial part of those due, whether it completes or hangs (R127). -/
theorem exec_step_requests (ha : s.active = true) (e : exec .step s = .next t) :
    ∃ l, t.rngLog = s.rngLog ++ l ∧ l <+: requestsDue s := by
  rcases exec_step_active ha e with ⟨u, hu, rfl⟩ | ⟨u, hu, rfl⟩
  · obtain ⟨l, hl, -, hlog, -⟩ := frame_completed_requests hu
    exact ⟨l, hlog, hl⟩
  · obtain ⟨l, hlog, hl, -⟩ := frame_hang_requests hu
    exact ⟨l, hlog, hl⟩

/-- A STEP of a trial makes at most one FIRE draw, and one only with two goops or more (R120). -/
theorem exec_step_fires (hlive : s.goopCounter ≠ 0) (ha : s.active = true) (e : exec .step s = .next t) :
    ∃ l, t.rngLog = s.rngLog ++ l ∧ l.count (fireRequest s.cfg) ≤ (if Fires s then 1 else 0) ∧
      l.count (fireRequest s.cfg) + 1 ≤ s.goopCounter.toNat := by
  obtain ⟨l, hlog, hl⟩ := exec_step_requests ha e
  have hcount : l.count (fireRequest s.cfg) ≤ if Fires s then 1 else 0 :=
    count_requestsDue s ▸ hl.sublist.count_le _
  refine ⟨l, hlog, hcount, ?_⟩
  split at hcount
  case isTrue hf =>
    have hone := hf.2
    bv_omega
  case isFalse => bv_omega

/-- The FIRE draws of STEPs in a row are fewer than the goops they start with (R131). -/
theorem stepsFrom_fires (n : Nat) : ∀ s : State, s.goopCounter ≠ 0 → (∀ k, k < n → (stepsFrom k s).active = true) →
    ∃ l, (stepsFrom n s).rngLog = s.rngLog ++ l ∧ l.count (fireRequest s.cfg) + 1 ≤ s.goopCounter.toNat := by
  induction n with
  | zero => exact fun s hlive _ => ⟨[], by simp [stepsFrom], by simp; bv_omega⟩
  | succ n ih =>
    intro s hlive hon
    have ha : s.active = true := hon 0 (by omega)
    obtain ⟨t, e⟩ := exec_eq_next .step s
    obtain ⟨l, hlog, hcount, htotal⟩ := exec_step_fires hlive ha e
    by_cases hlast : n = 0 ∨ t.eng ≠ .idle
    · have hsteps : stepsFrom (n + 1) s = t := by
        rcases hlast with rfl | hbusy
        · exact stepsFrom_one e
        · simp [stepsFrom, e, (busy_eq_true_iff t).2 hbusy]
      exact ⟨l, hsteps ▸ hlog, htotal⟩
    · obtain ⟨hn, hidle⟩ := not_or.1 hlast
      have hrest (k : Nat) : stepsFrom (k + 1) s = stepsFrom k t := stepsFrom_succ_of_idle e (not_not.1 hidle) k
      have hfirst : stepsFrom 1 s = t := hrest 0
      have hactive : t.active = true := hfirst ▸ hon 1 (by omega)
      obtain ⟨u, hu | hu, rfl⟩ := exec_step_completed ha e (not_not.1 hidle)
      · obtain ⟨hlive', hpaid⟩ := frame_cont_counter hlive hu
        have hcfg : u.cfg = s.cfg := (frame_keeps (.inl hu)).1
        obtain ⟨m, hlog', hcount'⟩ := ih u.complete hlive' fun k hk => hrest k ▸ hon (k + 1) (by omega)
        rw [complete_cfg, hcfg, complete_goopCounter] at hcount'
        refine ⟨l ++ m, by rw [hrest, hlog', hlog, List.append_assoc], ?_⟩
        rw [List.count_append]
        omega
      · rw [complete_active, (frame_terminated_flags hu).1] at hactive
        cases hactive

end

end Sys2Proof.Machine

namespace Sys2Proof

open Sys2Proof.Machine

/-- Settles O52: START gives 16 goops, and the STEPs after it make fewer FIRE draws than that. -/
theorem trialFiresAtMostFifteenProjectiles : Obligations.TrialFiresAtMostFifteenProjectiles := by
  intro s t side phase seed n hanswer e hon
  rcases exec_start_cases side phase seed s with ⟨_, e'⟩ | ⟨hn, _⟩
  case inr => exact absurd (hanswer.symm.trans hn) (by simp)
  have ht : t.goopCounter = 16 ∧ t.cfg = s.cfg := by
    rw [e'] at e; cases e
    exact ⟨rfl, rfl⟩
  obtain ⟨hcounter, hcfg⟩ := ht
  obtain ⟨l, hlog, hcount⟩ := stepsFrom_fires n t (by simp [hcounter]) hon
  rw [hcfg, hcounter] at hcount
  exact ⟨l, hlog, Nat.le_of_succ_le_succ hcount⟩

end Sys2Proof

/-! SUPPORT. The projectile test and FIRE (42_projectile.md R151 to R163): the velocity by its two products, the flight
of a projectile with and without a velocity, and the targets out of its reach; O56 to O60 from it. -/

namespace Sys2Proof.Machine

/-! ### The velocity -/

/-- A result of the trig unit is 0 exactly when amplitude times table entry is (R104, R161). -/
theorem trig_eq_zero_iff (p : Params) (k : TrigKind) (amp θ : Byte) :
    trig p k amp θ = 0 ↔ amp.toNat * (lut p (sineAngle k θ)).toNat = 0 := by
  obtain ⟨-, -, -, hzero⟩ := trigResultRange p k amp θ
  rw [hzero, ← product_toNat, ← BitVec.toNat_inj]
  rfl

/-- A component of the position that starts at `w` and stays in the lower half does not move: a multiple of a velocity
other than 0 would flip bit 31 (R160). -/
theorem velocity_eq_zero_of_stays_in_lower_half {w v : Word}
    (h : ∀ n, 1 ≤ n → ((w + BitVec.ofNat 32 n * v).extractLsb 31 16).toNat < 0x8000) : v = 0 := by
  by_contra hv
  obtain ⟨m, hm⟩ := exists_mul_eq_bit31 hv
  have hfar := not_both_in_lower_half _ (h 1 le_rfl)
  have hnear := h (1 + m) (by omega)
  rw [BitVec.ofNat_add, BitVec.add_mul, hm, ← BitVec.add_assoc] at hnear
  omega

/-! ### When the test never ends, and what FIRE does -/

section

variable {p : Params} {x y : Half} {side : Side} {tx ty : Half} {r : Byte}

theorem fieldBound_le_of_fieldOk (hfield : p.fieldOk = true) : p.fieldBound ≤ 0x8000 :=
  of_decide_eq_true (Bool.and_eq_true_iff.1 hfield).2

/-- Without a velocity every position is the spawn point (R161). -/
theorem fliesOn_of_velocity_zero (hvx : velocityX p (flightAngle p side r) = 0)
    (hvy : velocityY p (flightAngle p side r) = 0) (n : Nat) :
    FliesOn p x y side tx ty r n ↔ FliesOn p x y side tx ty r 0 := by
  have hX : flightX p x side r n = flightX p x side r 0 := by simpa [hvx] using flightX_add p x side r 0 n
  have hY : flightY p y side r n = flightY p y side r 0 := by simpa [hvy] using flightY_add p y side r 0 n
  simp only [FliesOn, inFieldAt, hitAt, hX, hY]

theorem velocity_eq_zero_of_neverEnds (hfield : p.fieldOk = true) (h : NeverEnds p x y side tx ty r) :
    velocityX p (flightAngle p side r) = 0 ∧ velocityY p (flightAngle p side r) = 0 := by
  have hin (n : Nat) (hn : 1 ≤ n) := of_decide_eq_true (h n hn).1
  have hbound := fieldBound_le_of_fieldOk hfield
  exact ⟨velocity_eq_zero_of_stays_in_lower_half fun n hn => (hin n hn).1.trans_le hbound,
    velocity_eq_zero_of_stays_in_lower_half fun n hn => (hin n hn).2.trans_le hbound⟩

/-- Under FIELD_BOUND's range the test never ends exactly in the third course of R161. -/
theorem neverEnds_iff (hfield : p.fieldOk = true) : NeverEnds p x y side tx ty r ↔
    velocityX p (flightAngle p side r) = 0 ∧ velocityY p (flightAngle p side r) = 0 ∧
      FliesOn p x y side tx ty r 0 := by
  constructor
  · intro h
    obtain ⟨hvx, hvy⟩ := velocity_eq_zero_of_neverEnds hfield h
    exact ⟨hvx, hvy, (fliesOn_of_velocity_zero hvx hvy 1).1 (h 1 le_rfl)⟩
  · rintro ⟨hvx, hvy, hspawn⟩ n -
    exact (fliesOn_of_velocity_zero hvx hvy n).2 hspawn

variable {s t : State}

/-- A completed FIRE is a test that ended, and LF_HIT and FIRE_STEPS are its answer (R157, R159). -/
theorem exec_fire_completed (e : exec (.fire side r) s = .next t) (hidle : t.eng = .idle) :
    proj s.cfg s.x s.y side s.tx s.ty r = some (t.lfHit, t.fireSteps.toNat) := by
  rcases exec_fire_cases side r s with ⟨hit, n, hp, e'⟩ | ⟨_, e'⟩ <;> rw [e'] at e <;> cases e
  · have hbound : n ≤ 0x80000001 := (proj_steps hp).2
    have hsteps : (BitVec.ofNat 32 n).toNat = n := by rw [BitVec.toNat_ofNat, Nat.mod_eq_of_lt (by omega)]
    exact hp.trans (by simp [hsteps])
  · cases hidle

theorem exec_fire_hangs_iff : exec (.fire side r) s = .next (s.hang (.fire side r)) ↔
    proj s.cfg s.x s.y side s.tx s.ty r = none := by
  rcases exec_fire_cases side r s with ⟨hit, n, hp, e⟩ | ⟨hp, e⟩
  · have heng : (s.recordFire .command hit r (launchAngle s.cfg side r) n).complete ≠ s.hang (.fire side r) :=
      fun h => by simpa using congrArg State.eng h
    simp [hp, e, heng]
  · simp [hp, e]

end

/-! ### Targets out of reach -/

/-- A hit on one axis from a position in the field: the target is less than the half-width from it (R156, R162). -/
theorem target_in_reach_of_axis_hit {w t hb : Half} {bound : Nat} (hbound : bound ≤ 0x8000) (hin : w.toNat < bound)
    (hhit : (w.toInt - t.toInt).natAbs < hb.toNat) :
    -(hb.toNat : Int) < t.toInt ∧ t.toInt < (bound : Int) - 1 + hb.toNat ∧ hb ≠ 0 := by
  have hw : w.toInt = w.toNat := BitVec.toInt_eq_toNat_of_lt (by omega)
  refine ⟨by omega, by omega, ?_⟩
  rintro rfl
  exact absurd hhit (Nat.not_lt_zero _)

/-- The hitbox of the target lies wholly outside the field, or is empty (R162). -/
def OutOfReach (p : Params) (tx ty : Half) : Prop :=
  (p.fieldBound : Int) - 1 + p.hbX.toNat ≤ tx.toInt ∨ tx.toInt ≤ -(p.hbX.toNat : Int) ∨
    (p.fieldBound : Int) - 1 + p.hbY.toNat ≤ ty.toInt ∨ ty.toInt ≤ -(p.hbY.toNat : Int) ∨ p.hbX = 0 ∨ p.hbY = 0

section

variable {p : Params} {x y : Half} {side : Side} {tx ty : Half} {r : Byte}

/-- The hit test runs on positions in the field only, and from none of them reaches such a target (R162). -/
theorem hitAt_of_outOfReach {n : Nat} (hfield : p.fieldOk = true) (hout : OutOfReach p tx ty)
    (hin : inFieldAt p x y side r n = true) : hitAt p x y side tx ty r n = false := by
  rw [← Bool.not_eq_true]
  intro hhit
  obtain ⟨hinX, hinY⟩ := of_decide_eq_true hin
  obtain ⟨hhitX, hhitY⟩ := of_decide_eq_true hhit
  have hbound := fieldBound_le_of_fieldOk hfield
  obtain ⟨hlowX, hhighX, hwidthX⟩ := target_in_reach_of_axis_hit hbound hinX hhitX
  obtain ⟨hlowY, hhighY, hwidthY⟩ := target_in_reach_of_axis_hit hbound hinY hhitY
  rcases hout with h | h | h | h | h | h
  · omega
  · omega
  · omega
  · omega
  · exact hwidthX h
  · exact hwidthY h

theorem proj_not_hit {hit : Bool} {n : Nat} (hfield : p.fieldOk = true) (hout : OutOfReach p tx ty)
    (e : proj p x y side tx ty r = some (hit, n)) : hit = false := by
  obtain ⟨-, -, hend, -⟩ := proj_endsAt e
  rw [← Bool.not_eq_true]
  intro h
  obtain ⟨hin, hhit⟩ := hend h
  simp [hitAt_of_outOfReach hfield hout hin] at hhit

variable {s t : State}

theorem frame_not_hit (hfield : s.cfg.fieldOk = true) (hout : OutOfReach s.cfg s.tx s.ty) (hr : s.reason ≠ .hit)
    (e : frame s = .cont t ∨ frame s = .terminated t) : t.reason ≠ .hit := by
  cases frame_end e with
  | missGoop _ _ _ hr' => simp [hr']
  | hit _ _ _ _ hrec =>
    obtain ⟨n, hp, -⟩ := hrec
    exact absurd (proj_not_hit hfield hout hp) (by simp)
  | missExit _ hr' => simp [hr']
  | goesOn hf =>
    obtain ⟨-, -, hr'⟩ := hf
    rwa [hr']

theorem frame_hang_not_hit (hr : s.reason ≠ .hit) (e : frame s = .hang t) : t.reason ≠ .hit := by
  obtain ⟨-, ⟨-, -, hr'⟩, -⟩ := frame_hang_keeps e
  rwa [hr']

theorem refuseInactive_not_hit (hr : s.reason ≠ .hit) : (refuseInactive s).reason ≠ .hit := by
  simpa [refuseInactive] using hr

theorem exec_step_not_hit (hfield : s.cfg.fieldOk = true) (hout : OutOfReach s.cfg s.tx s.ty) (hr : s.reason ≠ .hit)
    (e : exec .step s = .next t) : t.reason ≠ .hit := by
  rcases exec_step_cases s with ⟨_, e'⟩ | ⟨_, u, hu, e'⟩ | ⟨_, u, hu, e'⟩ | ⟨_, u, hu, e'⟩ <;> rw [e'] at e <;> cases e
  · exact refuseInactive_not_hit hr
  · exact frame_not_hit (t := u) hfield hout hr (.inl hu)
  · exact frame_not_hit (t := u) hfield hout hr (.inr hu)
  · exact frame_hang_not_hit (t := u) hr hu

/-- The frames of RUN keep TARGET, the parameters and, one after the other, that there was no hit. -/
theorem exec_run_not_hit (hfield : s.cfg.fieldOk = true) (hout : OutOfReach s.cfg s.tx s.ty) (hr : s.reason ≠ .hit)
    (e : exec .run s = .next t) : t.reason ≠ .hit := by
  have keeps {u v : State} (h : FrameKeeps s u ∧ u.reason ≠ .hit) (hv : frame u = .cont v ∨ frame u = .terminated v) :
      FrameKeeps s v ∧ v.reason ≠ .hit := by
    obtain ⟨hkeeps, hu⟩ := h
    have ⟨hcfg, _, htx, hty, _⟩ := hkeeps
    refine ⟨hkeeps.trans (frame_keeps hv), frame_not_hit ?_ ?_ hu hv⟩
    · rwa [hcfg]
    · rwa [hcfg, htx, hty]
  have frames := runFrames_induct (fun u => FrameKeeps s u ∧ u.reason ≠ .hit) (fun _ _ h _ hv => keeps h (.inl hv))
    (fun _ _ h _ hv => keeps h (.inr hv)) runFuel s ⟨.refl s, hr⟩
  rcases exec_run_cases s with ⟨_, e'⟩ | ⟨ha, u, hu, e'⟩ | ⟨ha, u, hu, e'⟩ | ⟨ha, u, hu, e'⟩ <;> rw [e'] at e <;>
    cases e
  · exact refuseInactive_not_hit hr
  · exact ((frames ha).1 u hu).1.2
  · exact ((frames ha).2.1 u hu).2
  · obtain ⟨v, ⟨-, hv⟩, -, hf⟩ := (frames ha).2.2 u hu
    exact frame_hang_not_hit (t := u) hv hf

end

end Sys2Proof.Machine

namespace Sys2Proof

open Sys2Proof.Machine

/-- Settles O56: with a velocity the test ends, within the bound of the loop. -/
theorem fireCompletesAndRecordsTheTest : Obligations.FireCompletesAndRecordsTheTest := by
  intro s side r hfield a hmoving
  rcases exec_fire_cases side r s with ⟨hit, n, hp, e⟩ | ⟨hp, _⟩
  · obtain ⟨hpos, hbound⟩ := proj_steps hp
    rw [launchAngle_eq_flightAngle] at e
    exact ⟨hit, n, hpos, hbound, e⟩
  · exact absurd (velocity_eq_zero_of_neverEnds hfield (proj_neverEnds hp)) hmoving

/-- Settles O57: the recorded answer is that of the loop, which ends where the flight does. -/
theorem fireOutcomeIsTheFirstEndOfTheFlight : Obligations.FireOutcomeIsTheFirstEndOfTheFlight := by
  intro s t side r e hidle
  exact proj_endsAt (exec_fire_completed e hidle)

/-- Settles O58: FIRE hangs with its loop, whose bound loses nothing, and a flight that stays in the field stands
still. -/
theorem fireHangsExactlyWhenTheTestNeverEnds : Obligations.FireHangsExactlyWhenTheTestNeverEnds := by
  intro s side r a
  exact ⟨exec_fire_hangs_iff.trans proj_eq_none_iff, neverEnds_iff⟩

/-- Settles O59: each component is 0 exactly when its product is. -/
theorem velocityIsZeroExactlyWhenBothProductsAre : Obligations.VelocityIsZeroExactlyWhenBothProductsAre := by
  intro p a
  exact and_congr (trig_eq_zero_iff p .cos p.projSpeed a) (trig_eq_zero_iff p .sin p.projSpeed a)

/-- Settles O60: no test hits a target out of reach, whether FIRE or a frame runs it. -/
theorem targetOutsideTheFieldIsNeverHit : Obligations.TargetOutsideTheFieldIsNeverHit := by
  intro s t i hout hfield e
  refine ⟨?_, ?_⟩
  · rintro ⟨side, r, rfl⟩ hidle
    exact proj_not_hit hfield hout (exec_fire_completed e hidle)
  · rintro (rfl | rfl) hr
    · exact exec_step_not_hit hfield hout hr e
    · exact exec_run_not_hit hfield hout hr e

end Sys2Proof

/-! SUPPORT. The host's writes by their offset (43_control.md R172, R174 to R176), and how a command comes to stand in
the engine (R172, R59): O8, O14, O15 and O35. -/

namespace Sys2Proof.Machine

section

variable {s : State} {v : Word} {i : Instr} {off : Nat} {rest : List Event}

/-! ### Writes that set a register, and writes that are ignored -/

/-- The writable registers answer a busy block alike (R172, R174, R175). -/
theorem hostWrite_of_busy (hoff : off = 0x00 ∨ off = 0x0C ∨ off = 0x10) (hb : s.busy = true) :
    hostWrite off v s = raiseError .busyOverrun s := by
  rcases hoff with rfl | rfl | rfl <;> exact if_pos hb

/-- POS and TARGET belong to the trial while one is ACTIVE (R174, R175). -/
theorem hostWrite_of_locked (hoff : off = 0x0C ∨ off = 0x10) (hidle : s.busy = false) (ha : s.active = true) :
    hostWrite off v s = raiseError .locked s := by
  rcases hoff with rfl | rfl
  · simp [hostWrite, writePos, hidle, ha]
  · simp [hostWrite, writeTarget, hidle, ha]

theorem writePos_of_unlocked (hidle : s.busy = false) (ha : s.active = false) :
    writePos v s = { s with x := v.extractLsb 15 0, y := v.extractLsb 31 16 } := by
  simp [writePos, hidle, ha]

theorem writeTarget_of_unlocked (hidle : s.busy = false) (ha : s.active = false) :
    writeTarget v s = { s with tx := v.extractLsb 15 0, ty := v.extractLsb 31 16 } := by
  simp [writeTarget, hidle, ha]

theorem hostWrite_of_readOnly (h0 : off ≠ 0x00) (hpos : off ≠ 0x0C) (htarget : off ≠ 0x10) :
    hostWrite off v s = s := by
  rcases hostWrite_cases off v s with ⟨h, -⟩ | ⟨h, -⟩ | ⟨h, -⟩ | ⟨-, -, -, e⟩
  · exact absurd h h0
  · exact absurd h hpos
  · exact absurd h htarget
  · exact e

/-- A write that records an error does nothing else (R193, R194). -/
theorem step_of_refused_write {e : Err}
    (hev : s.events = .access ⟨s.cfg.blockBase + off, 32, .write v⟩ :: rest) (hlt : off < 0x40) (h4 : off % 4 = 0)
    (hw : hostWrite off v (s.withEvents rest) = raiseError e (s.withEvents rest)) :
    step s = .next { s with events := rest, err := recorded e s.err } := by
  rw [step_of_write hev hlt h4, hw, raiseError_eq]
  rfl

/-- A word by its halves (R14). -/
theorem toNat_eq_halves (v : Word) : v.toNat = 65536 * (v.extractLsb 31 16).toNat + (v.extractLsb 15 0).toNat := by
  have hhigh : (v.extractLsb 31 16).toNat = v.toNat / 65536 := intPart_toNat v
  have hlow : (v.extractLsb 15 0).toNat = v.toNat % 65536 := by simp [BitVec.extractLsb_toNat]
  omega

/-! ### A command on its way into the engine -/

theorem tableWord_toNat (w : Word) : tableWord 32 w.toNat = w := by
  rw [tableWord, Nat.mod_eq_of_lt w.isLt, BitVec.ofNat_toNat, BitVec.setWidth_eq]

/-- `withFetchWord` latches the command, the engine's move being next (notes/assumptions/2.md). -/
theorem withFetchWord_of_command (hd : decode v = .command i) :
    s.withFetchWord 32 v.toNat = (s.hold i).withEvents (.engine :: s.events) := by
  simp only [State.withFetchWord, tableWord_toNat, latchWord, hd]

/-- The acceptance of a command (R172). -/
theorem offer_of_command (hd : decode v = .command i) (hidle : s.busy = false)
    (hn : needsTrial i = true → s.active = true) : offer v s = s.hold i := by
  have hpasses : (needsTrial i && !s.active) = false := by
    cases hi : needsTrial i
    · rfl
    · simp [hn hi]
  simp [offer, hidle, hd, hpasses]

/-- The engine's event runs the command in ENG, and is taken off the list. -/
theorem step_of_engine_of_exec (hev : s.events = .engine :: rest) (heng : s.eng = .exec i) :
    step s = exec i (s.withEvents rest) :=
  (step_of_engine hev).trans (runEngine_of_exec (s := s.withEvents rest) heng)

theorem exec_clrErr (s : State) : exec .clrErr s = .next (clearError s).complete := rfl

end

end Sys2Proof.Machine

namespace Sys2Proof

open Sys2Proof.Machine

/-- Settles O8: both ways latch the command in ENG with the engine's move next, and that move is `exec` of it. -/
theorem decodedWordRunsItsCommand : Obligations.DecodedWordRunsItsCommand := by
  intro s w i rest hd
  refine ⟨?_, fun hev heng hn => ⟨?_, step_of_engine_of_exec rfl rfl⟩⟩
  · rw [withFetchWord_of_command hd]
    exact step_of_engine_of_exec rfl rfl
  · have hidle : (s.withEvents (.engine :: rest)).busy = false := (busy_eq_false_iff _).2 heng
    have hwrite : hostWrite 0x00 w (s.withEvents (.engine :: rest)) = (s.withEvents (.engine :: rest)).hold i :=
      offer_of_command hd hidle hn
    rw [step_of_write hev (by decide) (by decide), hwrite]
    rfl

/-- Settles O14: the two registers are refused alike, and an accepted word is taken by its halves. -/
theorem posAndTargetWritesFollowTheirRules : Obligations.PosAndTargetWritesFollowTheirRules := by
  intro s v rest
  refine ⟨fun hev => ⟨fun hb => ?_, fun hidle ha => ?_, fun hidle ha => ?_⟩,
    fun hev => ⟨fun hb => ?_, fun hidle ha => ?_, fun hidle ha => ?_⟩⟩
  · exact step_of_refused_write hev (by decide) (by decide) (hostWrite_of_busy (.inr (.inl rfl)) hb)
  · exact step_of_refused_write hev (by decide) (by decide) (hostWrite_of_locked (.inl rfl) hidle ha)
  · refine ⟨v.extractLsb 15 0, v.extractLsb 31 16, ?_, toNat_eq_halves v⟩
    have hwrite := writePos_of_unlocked (s := s.withEvents rest) (v := v) hidle ha
    exact (step_of_write hev (by decide) (by decide)).trans (congrArg _ hwrite)
  · exact step_of_refused_write hev (by decide) (by decide) (hostWrite_of_busy (.inr (.inr rfl)) hb)
  · exact step_of_refused_write hev (by decide) (by decide) (hostWrite_of_locked (.inr rfl) hidle ha)
  · refine ⟨v.extractLsb 15 0, v.extractLsb 31 16, ?_, toNat_eq_halves v⟩
    have hwrite := writeTarget_of_unlocked (s := s.withEvents rest) (v := v) hidle ha
    exact (step_of_write hev (by decide) (by decide)).trans (congrArg _ hwrite)

/-- Settles O15: the write is one step, and at these offsets it writes nothing, BUSY not being looked at. -/
theorem readOnlyWritesAreIgnored : Obligations.ReadOnlyWritesAreIgnored := by
  intro s off v rest hev hlt h4 h0 hpos htarget
  rw [step_of_write hev hlt h4, hostWrite_of_readOnly h0 hpos htarget]
  rfl

/-- Settles O35: NOP only completes, and CLRERR completes with the error cleared. -/
theorem nopAndClrerrComplete : Obligations.NopAndClrerrComplete := by
  intro s hint
  exact ⟨exec_nop hint s, exec_clrErr s⟩

end Sys2Proof

/-! SUPPORT. ERRCODE over one step (60_exceptions.md R191 to R197): the host writes that record an error, each with its
condition, and all that can become of ERRCODE; O9, O10, O12 and O13 from it. -/

namespace Sys2Proof.Machine

/-! ### An idle block -/

section

variable {s : State}

theorem runEngine_of_idle (h : s.eng = .idle) : runEngine s = .next s := by
  simp only [runEngine, h]

/-- A poll of an idle block is a read of STATUS (R80). -/
theorem poll_of_idle (rest : List Event) (h : s.busy = false) :
    poll rest s = .next { s with events := rest, rdata := statusWord s } := by
  have hread : hostRead 0x04 (s.withEvents rest) = { s with events := rest, rdata := statusWord s } := by
    rcases hostRead_cases 0x04 (s.withEvents rest) with ⟨_, hx, _⟩ | ⟨_, e⟩
    · cases hx
    · exact e
  simp only [poll, h, hread, Bool.false_eq_true, if_false]

end

/-! ### The host writes that record an error -/

/-- A host write of `v` at `off` raises `e`, from BUSY and ACTIVE (R191, R192, R195). -/
inductive WriteError (busy active : Bool) (off : Nat) (v : Word) : Err → Prop
  | busyOverrun (hb : busy = true) (hoff : off = 0x00 ∨ off = 0x0C ∨ off = 0x10) :
    WriteError busy active off v .busyOverrun
  | illegalCmd (hb : busy = false) (hoff : off = 0x00) (hd : ∀ c, decode v ≠ .command c) :
    WriteError busy active off v .illegalCmd
  | notActive (hb : busy = false) (hoff : off = 0x00) (hd : decode v = .command .step ∨ decode v = .command .run)
    (ha : active = false) : WriteError busy active off v .notActive
  | locked (hb : busy = false) (hoff : off = 0x0C ∨ off = 0x10) (ha : active = true) :
    WriteError busy active off v .locked

section

variable {s : State} {off : Nat} {v : Word} {e : Err} {rest : List Event}

theorem exists_illegal_of_not_command (h : ∀ c, decode v ≠ .command c) : ∃ why, decode v = .illegal why := by
  cases hd : decode v with
  | command c => exact absurd hd (h c)
  | illegal why => exact ⟨why, rfl⟩

theorem eq_step_or_run_of_needsTrial {c : Instr} (h : needsTrial c = true) : c = .step ∨ c = .run := by
  cases c <;> simp_all [needsTrial]

theorem WriteError.writable {busy active : Bool} (h : WriteError busy active off v e) :
    off = 0x00 ∨ off = 0x0C ∨ off = 0x10 := by
  cases h with
  | busyOverrun _ hoff => exact hoff
  | illegalCmd _ hoff _ => exact .inl hoff
  | notActive _ hoff _ _ => exact .inl hoff
  | locked _ hoff _ => exact .inr hoff

theorem hostWrite_of_writeError (h : WriteError s.busy s.active off v e) : hostWrite off v s = raiseError e s := by
  cases h with
  | busyOverrun hb hoff => exact hostWrite_of_busy hoff hb
  | illegalCmd hb hoff hd =>
    subst hoff
    obtain ⟨why, hd⟩ := exists_illegal_of_not_command hd
    exact offer_of_illegal hb hd
  | notActive hb hoff hd ha =>
    subst hoff
    rcases hd with hd | hd
    · exact offer_of_needsTrial hd rfl ha hb
    · exact offer_of_needsTrial hd rfl ha hb
  | locked hb hoff ha => exact hostWrite_of_locked hoff hb ha

/-- A host write leaves ERRCODE as it is or is one of those that record an error. -/
theorem hostWrite_err (off : Nat) (v : Word) (s : State) :
    (hostWrite off v s).err = s.err ∨ ∃ e, WriteError s.busy s.active off v e := by
  rcases hostWrite_cases off v s with ⟨hoff, e⟩ | ⟨hoff, e⟩ | ⟨hoff, e⟩ | ⟨_, _, _, e⟩ <;> rw [e]
  · rcases offer_cases v s with ⟨hb, _⟩ | ⟨hb, ⟨why, hd⟩, _⟩ | ⟨hb, ⟨c, hd, hn⟩, ha, _⟩ | ⟨_, c, _, _, e⟩
    · exact .inr ⟨_, .busyOverrun hb (.inl hoff)⟩
    · exact .inr ⟨_, .illegalCmd hb hoff (by simp [hd])⟩
    · rcases eq_step_or_run_of_needsTrial hn with rfl | rfl
      · exact .inr ⟨_, .notActive hb hoff (.inl hd) ha⟩
      · exact .inr ⟨_, .notActive hb hoff (.inr hd) ha⟩
    · exact .inl (by rw [e, hold_err])
  · rcases writePos_cases v s with ⟨hb, _⟩ | ⟨hb, ha, _⟩ | ⟨_, _, e⟩
    · exact .inr ⟨_, .busyOverrun hb (.inr (.inl hoff))⟩
    · exact .inr ⟨_, .locked hb (.inl hoff) ha⟩
    · exact .inl (by rw [e])
  · rcases writeTarget_cases v s with ⟨hb, _⟩ | ⟨hb, ha, _⟩ | ⟨_, _, e⟩
    · exact .inr ⟨_, .busyOverrun hb (.inr (.inr hoff))⟩
    · exact .inr ⟨_, .locked hb (.inr hoff) ha⟩
    · exact .inl (by rw [e])
  · exact .inl rfl

/-- The write takes itself off the list and records its error (R193, R194). -/
theorem step_of_writeError (hev : s.events = .access ⟨s.cfg.blockBase + off, 32, .write v⟩ :: rest)
    (h : WriteError s.busy s.active off v e) :
    step s = .next { s with events := rest, err := recorded e s.err } := by
  have hslot : off < 0x40 ∧ off % 4 = 0 := by rcases h.writable with rfl | rfl | rfl <;> decide
  exact step_of_refused_write hev hslot.1 hslot.2 (hostWrite_of_writeError (s := s.withEvents rest) h)

theorem recorded_of_eq_none {old : Err} (h : old = .none) : recorded e old = e := if_pos h

theorem recorded_of_ne_none {old : Err} (h : old ≠ .none) : recorded e old = old := if_neg h

/-- With an error recorded the write only takes itself off the list (R193). -/
theorem step_of_later_writeError (hne : s.err ≠ .none)
    (hev : s.events = .access ⟨s.cfg.blockBase + off, 32, .write v⟩ :: rest)
    (h : WriteError s.busy s.active off v e) : step s = .next { s with events := rest } := by
  rw [step_of_writeError hev h, recorded_of_ne_none hne]

end

/-! ### ERRCODE after a command and after a step -/

section

variable {s t : State}

theorem hostRead_err (off : Nat) (s : State) : (hostRead off s).err = s.err := by
  rcases hostRead_cases off s with ⟨_, _, e⟩ | ⟨_, e⟩ <;> rw [e]
  · rfl

theorem resetBlock_err (s : State) : (resetBlock s).err = .none := by
  unfold resetBlock
  split <;> rfl

theorem exec_frames_err {c : Instr} (hc : c = .step ∨ c = .run) (e : exec c s = .next t) :
    t.err = s.err ∨ s.active = false ∧ t.err = recorded .notActive s.err := by
  cases ha : s.active
  · rw [exec_refused hc ha, refuseInactive, raiseError_eq] at e
    cases e
    exact .inr ⟨rfl, rfl⟩
  · obtain ⟨u, g, hkeeps, rfl⟩ := exec_frames_keep hc ha e
    obtain ⟨-, -, -, -, herr, -⟩ := hkeeps
    exact .inl herr

/-- A command leaves ERRCODE as it is, but for CLRERR, and for STEP or RUN without a trial (R171, R135). -/
theorem exec_err {c : Instr} (e : exec c s = .next t) :
    t.err = s.err ∨ c = .clrErr ∧ t.err = .none ∨
      needsTrial c = true ∧ s.active = false ∧ t.err = recorded .notActive s.err := by
  cases c with
  | nop hint => cases e; exact .inl rfl
  | trigCos amp angle => cases e; exact .inl rfl
  | trigSin amp angle => cases e; exact .inl rfl
  | start side phase seed =>
    rcases exec_start_cases side phase seed s with ⟨_, e'⟩ | ⟨_, e'⟩ <;> rw [e'] at e <;> cases e <;> exact .inl rfl
  | step => exact (exec_frames_err (.inl rfl) e).imp_right fun h => .inr ⟨rfl, h⟩
  | run => exact (exec_frames_err (.inr rfl) e).imp_right fun h => .inr ⟨rfl, h⟩
  | fire side r =>
    rcases exec_fire_cases side r s with ⟨hit, n, _, e'⟩ | ⟨_, e'⟩ <;> rw [e'] at e <;> cases e <;> exact .inl rfl
  | clrErr => cases e; exact .inr (.inl ⟨rfl, rfl⟩)

/-- What the engine's move from `s` to `t` has done to ERRCODE; its last case, STEP or RUN in the engine without a
trial, acceptance rules out (notes/assumptions/12.md). -/
def ErrAfterMove (s t : State) : Prop :=
  t.err = s.err ∨ s.eng = .exec .clrErr ∧ t.err = .none ∨
    (∃ c, s.eng = .exec c ∧ needsTrial c = true) ∧ s.active = false ∧ t.err = recorded .notActive s.err

theorem runEngine_err (e : runEngine s = .next t) : ErrAfterMove s t := by
  rcases runEngine_cases s with ⟨_, e'⟩ | ⟨c, hc, e'⟩ <;> rw [e'] at e
  · cases e
    exact .inl rfl
  · rcases exec_err e with h | ⟨rfl, h⟩ | ⟨hn, ha, h⟩
    · exact .inl h
    · exact .inr (.inl ⟨hc, h⟩)
    · exact .inr (.inr ⟨⟨c, hc, hn⟩, ha, h⟩)

/-- What a step from `s` to `t` has done to ERRCODE. -/
inductive ErrAfterStep (s t : State) : Prop
  | kept (h : t.err = s.err)
  | move (h : ErrAfterMove s t)
  | reset (rest : List Event) (hev : s.events = .reset :: rest) (h : t.err = .none)
  | write (off : Nat) (v : Word) (rest : List Event) (e : Err)
      (hev : s.events = .access ⟨s.cfg.blockBase + off, 32, .write v⟩ :: rest)
      (he : WriteError s.busy s.active off v e)

theorem access_err {a : Access} {rest : List Event} (hev : s.events = .access a :: rest)
    (e : access a (s.withEvents rest) = .next t) : ErrAfterStep s t := by
  rcases access_cases a (s.withEvents rest) with ⟨⟨why, e'⟩, _⟩ | ⟨_, _, e'⟩ | ⟨v, hw, ho, e'⟩ <;> rw [e'] at e <;>
    cases e
  · exact .kept (hostRead_err _ _)
  · rcases hostWrite_err (a.addr - s.cfg.blockBase) v (s.withEvents rest) with h | ⟨e, he⟩
    · exact .kept h
    · exact .write _ v rest e (eq_of_wf_write hw ho rfl ▸ hev) he

theorem step_err (e : step s = .next t) : ErrAfterStep s t := by
  rcases step_cases s with ⟨u, hu, e'⟩ | ⟨rest, _, _, e'⟩ | ⟨a, rest, hev, e'⟩ | ⟨rest, hev, e'⟩ | ⟨rest, _, e'⟩ <;>
    rw [e'] at e
  case inl =>
    rcases hu with rfl | ⟨es, rfl⟩
    · exact .move (runEngine_err e)
    · exact .move (runEngine_err (s := s.withEvents es) e)
  · cases e
    exact .kept (hostRead_err _ _)
  · exact access_err hev e
  · cases e
    exact .reset rest hev (resetBlock_err _)
  · cases e
    exact .kept rfl

end

end Sys2Proof.Machine

namespace Sys2Proof

open Sys2Proof.Machine

/-- Settles O9: an idle engine has no move to make, and a poll of an idle block is a read of STATUS. -/
theorem idleBlockKeepsAllState : Obligations.IdleBlockKeepsAllState := by
  intro s rest hidle
  refine ⟨fun hev => ?_, fun hev => ?_, fun hev => ?_⟩
  · rw [step_of_no_event hev, runEngine_of_idle hidle]
  · rw [step_of_engine hev, runEngine_of_idle (s := s.withEvents rest) hidle, State.withEvents]
  · rw [step_of_wait hev, poll_of_idle rest ((busy_eq_false_iff s).2 hidle)]

/-- Settles O10: each clause is one of the writes that record an error. -/
theorem hostWriteErrorsFollowThePriority : Obligations.HostWriteErrorsFollowThePriority := by
  intro s off v rest hev hoff
  exact ⟨fun hb => step_of_writeError hev (.busyOverrun hb hoff),
    fun hb h0 hd => step_of_writeError hev (.illegalCmd hb h0 hd),
    fun hb h0 hd ha => step_of_writeError hev (.notActive hb h0 hd ha),
    fun hb hlocked ha => step_of_writeError hev (.locked hb hlocked ha)⟩

/-- Settles O12: where a step records an error, the earlier one is kept, and else only Reset() and CLRERR write
ERRCODE. -/
theorem errcodeClearsOnlyByClrerrOrReset : Obligations.ErrcodeClearsOnlyByClrerrOrReset := by
  intro s t hne e
  cases step_err e with
  | kept h => exact .inl h
  | move h =>
    rcases h with h | ⟨heng, h⟩ | ⟨_, _, h⟩
    · exact .inl h
    · exact .inr ⟨h, .inr heng⟩
    · exact .inl (h.trans (recorded_of_ne_none hne))
  | reset rest hev h => exact .inr ⟨h, .inl ⟨rest, hev⟩⟩
  | write off v rest er hev he =>
    rw [step_of_later_writeError hne hev he] at e
    cases e
    exact .inl rfl

/-- Settles O13: of all that a step can do to ERRCODE, only a host write that records an error takes it from 0, since
Safe has no STEP or RUN in the engine without a trial. -/
theorem errorsHaveOnlyTheListedCauses : Obligations.ErrorsHaveOnlyTheListedCauses := by
  intro s t hsafe hnone e hset
  cases step_err e with
  | kept h => exact absurd (h.trans hnone) hset
  | move h =>
    rcases h with h | ⟨_, h⟩ | ⟨⟨c, hc, hn⟩, ha, _⟩
    · exact absurd (h.trans hnone) hset
    · exact absurd h hset
    · exact absurd (hsafe.inFlight c (.inl hc) hn) (by simp [ha])
  | reset _ _ h => exact absurd h hset
  | write off v rest er hev he =>
    have hstep := step_of_writeError hev he
    rw [recorded_of_eq_none hnone, e] at hstep
    cases hstep
    refine ⟨off, v, rest, hev, rfl, ?_⟩
    cases he with
    | illegalCmd hb hoff hd => exact .inl ⟨rfl, hoff, hb, hd⟩
    | notActive hb hoff hd ha => exact .inr (.inl ⟨rfl, hoff, hb, ha, hd⟩)
    | busyOverrun hb hoff => exact .inr (.inr (.inl ⟨rfl, hb, hoff⟩))
    | locked hb hoff ha => exact .inr (.inr (.inr ⟨rfl, hb, ha, hoff⟩))

end Sys2Proof

/-! SUPPORT. What no step of a frame reads, in addition to ENG: the registers that belong to the block and not to the
trial, the pending events, and the requests issued before (20_memory.md R56 to R58; 60_exceptions.md R206); O54 from
it, and O55 with what RUN leaves of the pending events (R59, U22). -/

namespace Sys2Proof.Machine

/-! ### A trial in another block

The rules are those of `State.disguise` for an update that also appends to the log. -/

/-- The block `o` with the trial of `s`: the encounter, ENG and the collaborator are those of `s`, whose requests come
after those that `o` has issued. -/
def State.withTrialOf (o s : State) : State :=
  { s with
    err := o.err, trigResult := o.trigResult, rngLog := o.rngLog ++ s.rngLog, events := o.events
    rdata := o.rdata, freeCount := o.freeCount }

section

variable (o s : State)

theorem issued_withTrialOf (q : RngReq) (n : Nat) :
    (o.withTrialOf s).issued q n = o.withTrialOf (s.issued q n) := by
  simp only [State.issued, State.withTrialOf, List.append_assoc]

theorem ask_withTrialOf (q : RngReq) : ask q (o.withTrialOf s) = (ask q s).map o.withTrialOf :=
  ite_eq_map .rfl (congrArg (Reply.answered _) (issued_withTrialOf o s q _))
    (congrArg Reply.never (issued_withTrialOf o s q _))

theorem draw_withTrialOf (site : Site) : draw site (o.withTrialOf s) = (draw site s).map o.withTrialOf :=
  ask_withTrialOf o s _

theorem drawDiscard_withTrialOf (site : Site) :
    drawDiscard site (o.withTrialOf s) = (drawDiscard site s).map o.withTrialOf := by
  rw [drawDiscard, drawDiscard, draw_withTrialOf]
  cases draw site s <;> rfl

theorem turretStep_withTrialOf : turretStep (o.withTrialOf s) = (turretStep s).map o.withTrialOf :=
  ite_eq_map .rfl (drawDiscard_withTrialOf o s _) rfl

theorem arm_withTrialOf (r : Byte) : arm r (o.withTrialOf s) = o.withTrialOf (arm r s) :=
  ite_eq_map .rfl rfl rfl

theorem inRangeStep_withTrialOf : inRangeStep (o.withTrialOf s) = (inRangeStep s).map o.withTrialOf := by
  rw [inRangeStep, inRangeStep, draw_withTrialOf]
  cases draw .arm s with
  | answered r t => exact congrArg (fun u => FrameResult.cont u.move) (arm_withTrialOf o t r)
  | never t => rfl

theorem approachStep_withTrialOf : approachStep (o.withTrialOf s) = o.withTrialOf (approachStep s) :=
  ite_eq_map .rfl rfl rfl

theorem rangeStep_withTrialOf : rangeStep (o.withTrialOf s) = (rangeStep s).map o.withTrialOf :=
  ite_eq_map .rfl (inRangeStep_withTrialOf o s) (congrArg FrameResult.cont (approachStep_withTrialOf o s))

theorem fireTest_withTrialOf (side : Side) (r : Byte) (src : FireSrc) :
    fireTest side r src (o.withTrialOf s) = (fireTest side r src s).map (Prod.map id o.withTrialOf) := by
  have h : proj (o.withTrialOf s).cfg (o.withTrialOf s).x (o.withTrialOf s).y side (o.withTrialOf s).tx
    (o.withTrialOf s).ty r = proj s.cfg s.x s.y side s.tx s.ty r := rfl
  rw [fireTest, fireTest, h]
  cases proj s.cfg s.x s.y side s.tx s.ty r <;> rfl

theorem fireProjectile_withTrialOf : fireProjectile (o.withTrialOf s) = (fireProjectile s).map o.withTrialOf := by
  rw [fireProjectile, fireProjectile, draw_withTrialOf]
  cases draw .fire s with
  | answered r t =>
    have ht : fireTest (o.withTrialOf t).side r .encounter (o.withTrialOf t) = _ := fireTest_withTrialOf o t t.side r _
    dsimp only [Reply.map]
    rw [ht]
    rcases fireTest t.side r .encounter t with _ | ⟨_ | _, u⟩ <;> rfl
  | never t => rfl

theorem shoot_withTrialOf : shoot (o.withTrialOf s) = (shoot s).map o.withTrialOf := by
  rw [shoot, shoot, fireProjectile_withTrialOf]
  cases fireProjectile s <;> rfl

theorem goopStep_withTrialOf : goopStep (o.withTrialOf s) = (goopStep s).map o.withTrialOf :=
  ite_eq_map .rfl rfl (ite_eq_map .rfl (ite_eq_map .rfl rfl (shoot_withTrialOf o s.countDown.spendGoop)) rfl)

theorem periodicStep_withTrialOf : periodicStep (o.withTrialOf s) = (periodicStep s).map o.withTrialOf :=
  ite_eq_map .rfl (drawDiscard_withTrialOf o s _) rfl

theorem exitStep_withTrialOf : exitStep (o.withTrialOf s) = (exitStep s).map o.withTrialOf := by
  have h : rngAdvance (o.withTrialOf s) = (rngAdvance s).map o.withTrialOf := ask_withTrialOf o s _
  refine ite_eq_map .rfl rfl ?_
  rw [h]
  cases rngAdvance s <;> rfl

theorem frame_withTrialOf : frame (o.withTrialOf s) = (frame s).map o.withTrialOf := by
  have steps : frameSteps (o.withTrialOf s) = (frameSteps s).map o.withTrialOf :=
    map_andThen (turretStep_withTrialOf o s) fun s1 =>
    map_andThen (rangeStep_withTrialOf o (oscillate s1)) fun s2 =>
    map_andThen (goopStep_withTrialOf o s2) fun s3 =>
    map_andThen (periodicStep_withTrialOf o s3) fun s4 => exitStep_withTrialOf o (tick s4)
  rw [frame, frame, steps]
  cases frameSteps s <;> rfl

theorem runFrames_withTrialOf (n : Nat) :
    ∀ s : State, runFrames n (o.withTrialOf s) = (runFrames n s).map o.withTrialOf := by
  induction n with
  | zero => exact fun s => rfl
  | succ n ih => exact fun s => map_andThen (frame_withTrialOf o s) ih

/-- RUN is the same in every block that has the trial. -/
theorem exec_run_withTrialOf (ha : s.active = true) :
    exec .run (o.withTrialOf s) = mapNext o.withTrialOf (exec .run s) := by
  have ha' : (o.withTrialOf s).active = true := ha
  simp only [exec, execRun, ha, ha', if_true, runFrames_withTrialOf]
  cases runFrames runFuel s <;> rfl

end

/-! ### The trial that START begins -/

/-- The state START reaches from its inputs alone (R110, R206). -/
def startedTrial (p : Params) (tx ty : Half) (side : Side) (phase : Byte) (seed : Half) : State :=
  let s : State := { State.reset with cfg := p, tx := tx, ty := ty }
  (startTrial side phase (s.issued (.seed seed) ((rngOf p.rng).seed seed))).complete

/-- An answered START leaves in the block the trial of its inputs. -/
theorem exec_start_eq_startedTrial {s t : State} {side : Side} {phase : Byte} {seed : Half}
    (ha : s.collaborator.answers (.seed seed) s.sigma = true) (e : exec (.start side phase seed) s = .next t) :
    t = s.withTrialOf (startedTrial s.cfg s.tx s.ty side phase seed) := by
  rcases exec_start_cases side phase seed s with ⟨_, e'⟩ | ⟨hn, _⟩
  · rw [e'] at e
    cases e
    rfl
  · exact absurd (ha.symm.trans hn) (by simp)

theorem startedTrial_active (p : Params) (tx ty : Half) (side : Side) (phase : Byte) (seed : Half) :
    (startedTrial p tx ty side phase seed).active = true := rfl

/-! ### RUN, ENG and the pending events -/

/-- A RUN is the same whatever ENG holds. -/
theorem exec_run_complete (s : State) : exec .run s.complete = exec .run s := by
  simp only [exec, execRun, complete_active, runFrames_complete]
  cases s.active
  · simp [refuseInactive, raiseError_eq, State.complete]
  · cases runFrames runFuel s <;> rfl

/-- RUN reads no pending event and leaves them pending. -/
theorem exec_run_withEvents {s t : State} (ha : s.active = true) (e : exec .run s = .next t) (es : List Event) :
    exec .run (s.withEvents es) = .next (t.withEvents es) := by
  obtain ⟨u, g, hkeeps, rfl⟩ := exec_frames_keep (.inr rfl) ha e
  obtain ⟨-, -, -, -, herr, htrig, -, hrdata, hfree, -⟩ := hkeeps
  have hrun := exec_run_withTrialOf { s with rngLog := [], events := es } s ha
  rw [e, mapNext] at hrun
  refine hrun.trans (congrArg Host.Outcome.next ?_)
  simp only [State.withTrialOf, State.withEvents, herr, htrig, hrdata, hfree, List.nil_append]

/-- A RUN that completes has ended the trial, and changed neither ERRCODE nor the parameters. -/
theorem exec_run_completed {s t : State} (ha : s.active = true) (e : exec .run s = .next t) (hidle : t.eng = .idle) :
    t.active = false ∧ t.err = s.err ∧ t.cfg = s.cfg := by
  rcases exec_run_cases s with ⟨hf, _⟩ | ⟨_, u, _, e'⟩ | ⟨_, u, hu, e'⟩ | ⟨_, u, _, e'⟩
  · simp [ha] at hf
  · rw [e'] at e; cases e
    cases hidle
  · rw [e'] at e; cases e
    obtain ⟨hcfg, -, -, -, herr, -⟩ := runFrames_keeps ha (.inr (.inl hu))
    exact ⟨(runFrames_terminated_flags hu).1, herr, hcfg⟩
  · rw [e'] at e; cases e
    cases hidle

end Sys2Proof.Machine

namespace Sys2Proof

open Sys2Proof.Machine

/-- Settles O54: both STARTs leave in their blocks the one trial of the common inputs, and RUN is the same in both
blocks. -/
theorem trialIsAFunctionOfItsInputs : Obligations.TrialIsAFunctionOfItsInputs := by
  intro s₁ s₂ t₁ t₂ u₁ u₂ side phase seed hcfg htx hty ha₁ ha₂ e₁ e₂ r₁ r₂
  have ht₁ := exec_start_eq_startedTrial ha₁ e₁
  have ht₂ := exec_start_eq_startedTrial ha₂ e₂
  rw [← hcfg, ← htx, ← hty] at ht₂
  have hactive := startedTrial_active s₁.cfg s₁.tx s₁.ty side phase seed
  obtain ⟨u, hu⟩ := exec_eq_next .run (startedTrial s₁.cfg s₁.tx s₁.ty side phase seed)
  rw [ht₁, exec_run_withTrialOf _ _ hactive, hu] at r₁
  rw [ht₂, exec_run_withTrialOf _ _ hactive, hu] at r₂
  cases r₁
  cases r₂
  have hsame : SameTrial (s₁.withTrialOf u) (s₂.withTrialOf u) := by simp [SameTrial, State.withTrialOf, lastFireWord]
  exact ⟨hsame, rfl, u.rngLog, rfl, rfl⟩

/-- Settles O55: RUN runs alike with the write taken off before it or left pending after it, and either refusal of the
write keeps the earlier error. -/
theorem writeBeforeOrAfterCompletionEndsTheSame : Obligations.WriteBeforeOrAfterCompletionEndsTheSame := by
  intro s t hne hactive e hidle r write
  obtain ⟨hended, herr, hcfg⟩ := exec_run_completed hactive e hidle
  have hrun (es : List Event) : exec .run (r.withEvents es) = .next (t.withEvents es) :=
    calc exec .run (r.withEvents es)
      _ = exec .run (s.withEvents es).complete := (exec_run_complete (r.withEvents es)).symm
      _ = exec .run (s.withEvents es) := exec_run_complete _
      _ = .next (t.withEvents es) := exec_run_withEvents hactive e es
  refine ⟨r.withEvents [.engine], t.withEvents [write], ?_, ?_, ?_, ?_⟩
  · exact step_of_later_writeError (s := r.withEvents [write, .engine]) hne rfl (.busyOverrun rfl (.inl rfl))
  · exact (step_of_engine_of_exec rfl rfl).trans (hrun [])
  · exact (step_of_engine_of_exec rfl rfl).trans (hrun [write])
  · have hpending : (t.withEvents [write]).events = .access ⟨t.cfg.blockBase + 0x00, 32, .write 0x40000000⟩ :: [] := by
      rw [hcfg]
      rfl
    exact step_of_later_writeError (s := t.withEvents [write]) (herr ▸ hne) hpending
      (.notActive ((busy_eq_false_iff t).2 hidle) rfl (.inl (by decide)) hended)

end Sys2Proof

/-! SUPPORT. Reset() and the hazards of a running command (70_reset_and_hazards.md R221 to R223, R226, R228, R231): a
Reset() and a read of a busy block as one step each, what the bookkeeping commands write, and that nothing writes the
parameters; O18, O21, O22 and O36 from them. -/

namespace Sys2Proof.Machine

section

variable {s t : State} {rest : List Event}

/-! ### Reset() and a read of a busy block, each as one step -/

theorem step_of_reset (h : s.events = .reset :: rest) : step s = .next (resetBlock (s.withEvents rest)) := by
  simp only [step, serve, h]

theorem resetBlock_of_busy (h : s.busy = true) : resetBlock s = freeSigma (clearRegisters s) := if_pos h

theorem resetBlock_of_idle (h : s.busy = false) : resetBlock s = clearRegisters s := by
  simp only [resetBlock, h, Bool.false_eq_true, if_false]

/-- A read of a busy block that R226 does not make exact delivers a free value. -/
theorem step_of_free_read {off : Nat} (hev : s.events = .access ⟨s.cfg.blockBase + off, 32, .read⟩ :: rest)
    (hlt : off < 0x40) (h4 : off % 4 = 0) (hb : s.busy = true) (hx : readsExactly off = false) :
    step s = .next (freeRead (s.withEvents rest)) := by
  have hread : hostRead off (s.withEvents rest) = freeRead (s.withEvents rest) := by
    rcases hostRead_cases off (s.withEvents rest) with ⟨_, _, e⟩ | ⟨hidle | hexact, _⟩
    · exact e
    · exact absurd (hb.symm.trans hidle) (by decide)
    · exact absurd (hx.symm.trans hexact) (by decide)
  rw [step_of_access hev, access, withEvents_cfg, decodeAccess_of_offset hlt h4]
  exact congrArg _ hread

theorem readsExactly_of_result_register {off : Nat} (hlo : 0x08 ≤ off) (hhi : off ≤ 0x20) :
    readsExactly off = false := by
  simp only [readsExactly, Bool.or_eq_false_iff, beq_eq_false_iff_ne, decide_eq_false_iff_not]
  omega

/-! ### The parameters -/

/-- No command writes a parameter (R223). -/
theorem exec_cfg {i : Instr} (e : exec i s = .next t) : t.cfg = s.cfg := by
  have trial (hi : i = .step ∨ i = .run) : t.cfg = s.cfg := by
    cases ha : s.active
    · rw [exec_refused hi ha] at e
      cases e
      simp [refuseInactive]
    · obtain ⟨u, g, hkeeps, rfl⟩ := exec_frames_keep hi ha e
      exact hkeeps.1
  cases i with
  | nop hint => cases e; rfl
  | trigCos amp angle => cases e; rfl
  | trigSin amp angle => cases e; rfl
  | start side phase seed =>
    rcases exec_start_cases side phase seed s with ⟨_, e'⟩ | ⟨_, e'⟩ <;> rw [e'] at e <;> cases e <;> rfl
  | step => exact trial (.inl rfl)
  | run => exact trial (.inr rfl)
  | fire side r =>
    rcases exec_fire_cases side r s with ⟨hit, n, _, e'⟩ | ⟨_, e'⟩ <;> rw [e'] at e <;> cases e <;> rfl
  | clrErr => cases e; rfl

theorem runEngine_cfg (e : runEngine s = .next t) : t.cfg = s.cfg := by
  rcases runEngine_cases s with ⟨_, e'⟩ | ⟨c, _, e'⟩ <;> rw [e'] at e
  · cases e
    rfl
  · exact exec_cfg e

theorem hostRead_cfg (off : Nat) (s : State) : (hostRead off s).cfg = s.cfg := by
  rcases hostRead_cases off s with ⟨_, _, e⟩ | ⟨_, e⟩ <;> simp [e, freeRead]

theorem hostWrite_cfg (off : Nat) (v : Word) (s : State) : (hostWrite off v s).cfg = s.cfg := by
  rcases hostWrite_cases off v s with ⟨_, e⟩ | ⟨_, e⟩ | ⟨_, e⟩ | ⟨_, _, _, e⟩ <;> rw [e]
  · rcases offer_cases v s with ⟨_, e⟩ | ⟨_, _, e⟩ | ⟨_, _, _, e⟩ | ⟨_, c, _, _, e⟩ <;> simp [e]
  · rcases writePos_cases v s with ⟨_, e⟩ | ⟨_, _, e⟩ | ⟨_, _, e⟩ <;> simp [e]
  · rcases writeTarget_cases v s with ⟨_, e⟩ | ⟨_, _, e⟩ | ⟨_, _, e⟩ <;> simp [e]

theorem access_cfg {a : Access} (e : access a s = .next t) : t.cfg = s.cfg := by
  rcases access_cases a s with ⟨⟨why, e'⟩, _⟩ | ⟨_, _, e'⟩ | ⟨v, _, _, e'⟩ <;> rw [e'] at e <;> cases e
  · exact hostRead_cfg _ _
  · exact hostWrite_cfg _ _ _

theorem resetBlock_cfg (s : State) : (resetBlock s).cfg = s.cfg := by
  unfold resetBlock
  split <;> rfl

end

end Sys2Proof.Machine

namespace Sys2Proof

open Sys2Proof.Machine

/-- Settles O18: the result registers are not among the offsets that a busy block reads exactly. -/
theorem busyReadsReturnAFreeValue : Obligations.BusyReadsReturnAFreeValue := by
  intro s off rest hev hb h4 hlo hhi
  exact step_of_free_read hev (by omega) h4 hb (readsExactly_of_result_register hlo hhi)

/-- Settles O21: Reset() clears the registers, and with BUSY = 1 alone draws a free value for the collaborator. -/
theorem resetEventClearsEveryRegister : Obligations.ResetEventClearsEveryRegister := by
  intro s rest hev
  rw [step_of_reset hev]
  cases hb : s.busy
  · exact ⟨s.sigma, s.freeCount, congrArg _ (resetBlock_of_idle (s := s.withEvents rest) hb), fun _ => rfl⟩
  · exact ⟨Config.freeSigma s.freeCount, s.freeCount + 1, congrArg _ (resetBlock_of_busy (s := s.withEvents rest) hb),
      fun hidle => by cases hidle⟩

/-- Settles O22: neither the engine's move, nor a host access, nor Reset(), nor a foreign request writes a
parameter. -/
theorem parametersNeverChange : Obligations.ParametersNeverChange := by
  intro s t e
  rcases step_cases s with ⟨u, hu, e'⟩ | ⟨rest, _, _, e'⟩ | ⟨a, rest, _, e'⟩ | ⟨rest, _, e'⟩ | ⟨rest, _, e'⟩ <;>
    rw [e'] at e
  case inl =>
    have hcfg := runEngine_cfg e
    rcases hu with rfl | ⟨es, rfl⟩
    · exact hcfg
    · exact hcfg
  · cases e
    exact hostRead_cfg _ _
  · exact access_cfg (s := s.withEvents rest) e
  · cases e
    exact resetBlock_cfg _
  · cases e
    rfl

/-- Settles O36: the next state of each command is the old one with the registers it may write, and ENG, set. -/
theorem bookkeepingCommandsDisturbNoTrial : Obligations.BookkeepingCommandsDisturbNoTrial := by
  rintro s t i (⟨hint, rfl⟩ | ⟨amp, angle, rfl⟩ | ⟨amp, angle, rfl⟩ | ⟨side, r, rfl⟩ | rfl) e
  · cases e
    exact ⟨rfl, absurd rfl, absurd rfl, fun h => h.elim (absurd rfl) (absurd rfl)⟩
  · cases e
    exact ⟨rfl, fun _ => .inl ⟨amp, angle, rfl⟩, absurd rfl, fun h => h.elim (absurd rfl) (absurd rfl)⟩
  · cases e
    exact ⟨rfl, fun _ => .inr ⟨amp, angle, rfl⟩, absurd rfl, fun h => h.elim (absurd rfl) (absurd rfl)⟩
  · rcases exec_fire_cases side r s with ⟨hit, n, _, e'⟩ | ⟨_, e'⟩ <;> rw [e'] at e <;> cases e
    · exact ⟨rfl, absurd rfl, absurd rfl, fun _ => ⟨side, r, rfl⟩⟩
    · exact ⟨rfl, absurd rfl, absurd rfl, fun _ => ⟨side, r, rfl⟩⟩
  · cases e
    exact ⟨rfl, absurd rfl, fun _ => rfl, fun h => h.elim (absurd rfl) (absurd rfl)⟩

end Sys2Proof
